-- ==== Sys2Proof/Word.lean ====
section
/-! DEFINITION. The widths the block works in (00_scope.md section 6, 40_crc.md R90): bytes, 16-bit registers and
operands, 32-bit words. Every value is unsigned. -/

namespace Sys2Proof

/-- A byte: a payload or frame byte, an acknowledgment byte, a command's byte operand. -/
abbrev Byte := BitVec 8

/-- A 16-bit register (`SEQ`, `POLLMAX`, `SETTLE`, `LINE`, `POLLCNT`) or a command's `imm` field. -/
abbrev Half := BitVec 16

/-- A 32-bit word: a command word, a table entry, a checksum, a response's `data`. -/
abbrev Word := BitVec 32

end Sys2Proof
end

