-- ==== Sys2Proof/Syntax.lean ====
section
/-! DEFINITION. The command set: the 15 commands of 30_encoding.md R66, one constructor per row, with the operands
of R67. Operands that an encoding can hold but that a by-value check refuses (`FRD` above 2055, a register index that
names no register) are terms here too: the block decodes them and answers a command fault (R68, R73). -/

namespace Sys2Proof

/-- A command of the block, its operands already assembled (30_encoding.md R66, R67). -/
inductive Instr where
  /-- `TBLD`: build the table (40_crc.md R81). -/
  | tbld
  /-- `CINIT`: start a streaming checksum (R85). -/
  | cinit
  /-- `CBYTE b`: fold one byte into the streaming checksum (R86). -/
  | cbyte (b : Byte)
  /-- `CFIN`: finish a streaming checksum (R87). -/
  | cfin
  /-- `CSUM`: checksum of the payload buffer (R88). -/
  | csum
  /-- `TRD i`: read table entry `i` (R89). -/
  | trd (i : Byte)
  /-- `PRST`: empty the payload buffer (41_frame.md R101). -/
  | prst
  /-- `PPUSH b`: append one byte to the payload (R102). -/
  | ppush (b : Byte)
  /-- `SEQINC`: advance the sequence id (R103). -/
  | seqinc
  /-- `ENC`: build the frame (R105). -/
  | enc
  /-- `FRD a`: read frame byte `a` (R106). -/
  | frd (a : Half)
  /-- `SIGW a`: write the signal line; the operand is the asserted flag, not the level (42_handshake.md R120, R121). -/
  | sigw (asserted : Bool)
  /-- `SEND`: deliver one frame and resolve it (R124). -/
  | send
  /-- `RREG r`: read control register `r` (43_access.md R160). -/
  | rreg (r : Byte)
  /-- `WREG r, v`: write control register `r` (R161). -/
  | wreg (r : Byte) (v : Half)
  deriving DecidableEq, Repr

end Sys2Proof
end

