-- ==== Sys2Proof/WellFormed.lean ====
section
/-! DEFINITION. Which commands pass the by-value checks that the command word alone decides (30_encoding.md R66, last
column): `FRD`'s offset and the register index of `RREG` and `WREG`. The one other by-value check, `PPUSH`'s, reads
`PLEN` and stands in its meaning. A command that is not well formed still decodes and runs: it answers the command
fault of its row (R68). -/

namespace Sys2Proof

/-- The operand names an element that exists and may be accessed so (30_encoding.md R66, column "by-value check"). -/
def Instr.wellFormed : Instr → Bool
  | .tbld => true
  | .cinit => true
  | .cbyte _ => true
  | .cfin => true
  | .csum => true
  | .trd _ => true
  | .prst => true
  | .ppush _ => true
  | .seqinc => true
  | .enc => true
  | .frd a => decide (a.toNat ≤ 2055)
  | .sigw _ => true
  | .send => true
  | .rreg r => decide (r.toNat ≤ 0x0A)
  | .wreg r _ => r == 0x02#8 || r == 0x08#8 || r == 0x09#8 || r == 0x0A#8

end Sys2Proof
end

