-- ==== Sys2Proof/Decode.lean ====
section
/-! DEFINITION. Decoding of command words, total on every 32-bit word (30_encoding.md R65 to R68, R73 step 1), and
after it the encoder written from the same table, and the table's `match` and `mask` columns (R66). The by-value checks
of R73 step 2 are made by the meanings. -/

namespace Sys2Proof

/-- Field `op`, bits 31 to 24 (30_encoding.md R65). -/
def opField (w : Word) : Byte := w.extractLsb' 24 8

/-- Field `idx`, bits 23 to 16 (R65). -/
def idxField (w : Word) : Byte := w.extractLsb' 16 8

/-- Field `imm`, bits 15 to 0 (R65). -/
def immField (w : Word) : Half := w.extractLsb' 0 16

/-- A byte operand, `imm[7:0]` as it stands (R67). -/
def byteOperand (imm : Half) : Byte := imm.extractLsb' 0 8

/-- `imm[15:8]`, which must be zero where the operand is a byte (R66). -/
def immHigh (imm : Half) : Byte := imm.extractLsb' 8 8

/-- Why a word is no command (30_encoding.md R68); the block answers `IllegalCommand` to both. -/
inductive IllegalWord where
  /-- The operation code is not in the table of R66. -/
  | unlistedOp (op : Byte)
  /-- The operation code is listed, but a must-be-zero bit of its row is set. -/
  | nonzeroField (op : Byte)
  deriving DecidableEq, Repr

/-- What decoding a word gives: a command, or a rejection by name. -/
inductive Decoded where
  | command (i : Instr)
  | illegal (why : IllegalWord)
  deriving DecidableEq, Repr

/-- A command without operand: `idx` and `imm` must be zero. -/
def decodePlain (w : Word) (i : Instr) : Decoded :=
  if idxField w = 0#8 ∧ immField w = 0#16 then .command i else .illegal (.nonzeroField (opField w))

/-- A command with a byte operand: `idx` and `imm[15:8]` must be zero. -/
def decodeByte (w : Word) (i : Byte → Instr) : Decoded :=
  if idxField w = 0#8 ∧ immHigh (immField w) = 0#8 then .command (i (byteOperand (immField w)))
  else .illegal (.nonzeroField (opField w))

/-- `FRD`: `idx` must be zero, the offset is all of `imm`. -/
def decodeFrd (w : Word) : Decoded :=
  if idxField w = 0#8 then .command (.frd (immField w)) else .illegal (.nonzeroField (opField w))

/-- `SIGW`: `idx` and `imm[15:1]` must be zero, the flag is `imm[0]`. -/
def decodeSigw (w : Word) : Decoded :=
  if idxField w = 0#8 ∧ (immField w).extractLsb' 1 15 = 0#15 then .command (.sigw ((immField w).getLsbD 0))
  else .illegal (.nonzeroField (opField w))

/-- `RREG`: the register is `idx`, `imm` must be zero. -/
def decodeRreg (w : Word) : Decoded :=
  if immField w = 0#16 then .command (.rreg (idxField w)) else .illegal (.nonzeroField (opField w))

/-- Decoding of a command word by its operation code (30_encoding.md R66, R68, R73 step 1). -/
def decode (w : Word) : Decoded :=
  match opField w with
  | 0x10#8 => decodePlain w .tbld
  | 0x11#8 => decodePlain w .cinit
  | 0x12#8 => decodeByte w .cbyte
  | 0x13#8 => decodePlain w .cfin
  | 0x14#8 => decodePlain w .csum
  | 0x15#8 => decodeByte w .trd
  | 0x20#8 => decodePlain w .prst
  | 0x21#8 => decodeByte w .ppush
  | 0x22#8 => decodePlain w .seqinc
  | 0x23#8 => decodePlain w .enc
  | 0x24#8 => decodeFrd w
  | 0x30#8 => decodeSigw w
  | 0x31#8 => decodePlain w .send
  | 0x40#8 => decodeRreg w
  | 0x41#8 => .command (.wreg (idxField w) (immField w))
  | op => .illegal (.unlistedOp op)

/-- A command word from its three fields, `op` uppermost (30_encoding.md R65). -/
def commandWord (op idx : Byte) (imm : Half) : Word := op ++ idx ++ imm

/-- The word of a command (30_encoding.md R66, R67). -/
def encode : Instr → Word
  | .tbld => commandWord 0x10#8 0#8 0#16
  | .cinit => commandWord 0x11#8 0#8 0#16
  | .cbyte b => commandWord 0x12#8 0#8 (0#8 ++ b)
  | .cfin => commandWord 0x13#8 0#8 0#16
  | .csum => commandWord 0x14#8 0#8 0#16
  | .trd i => commandWord 0x15#8 0#8 (0#8 ++ i)
  | .prst => commandWord 0x20#8 0#8 0#16
  | .ppush b => commandWord 0x21#8 0#8 (0#8 ++ b)
  | .seqinc => commandWord 0x22#8 0#8 0#16
  | .enc => commandWord 0x23#8 0#8 0#16
  | .frd a => commandWord 0x24#8 0#8 a
  | .sigw asserted => commandWord 0x30#8 0#8 (if asserted then 1#16 else 0#16)
  | .send => commandWord 0x31#8 0#8 0#16
  | .rreg r => commandWord 0x40#8 r 0#16
  | .wreg r v => commandWord 0x41#8 r v

/-- One row of the command table: a word `w` selects it when `w &&& mask = pattern` (30_encoding.md R66). -/
structure TableRow where
  mnemonic : String
  pattern : Word
  mask : Word
  deriving DecidableEq, Repr

/-- The `match` and `mask` columns of 30_encoding.md R66, in the table's order. -/
def commandTable : List TableRow :=
  [ ⟨"TBLD", 0x10000000#32, 0xFFFFFFFF#32⟩,
    ⟨"CINIT", 0x11000000#32, 0xFFFFFFFF#32⟩,
    ⟨"CBYTE", 0x12000000#32, 0xFFFFFF00#32⟩,
    ⟨"CFIN", 0x13000000#32, 0xFFFFFFFF#32⟩,
    ⟨"CSUM", 0x14000000#32, 0xFFFFFFFF#32⟩,
    ⟨"TRD", 0x15000000#32, 0xFFFFFF00#32⟩,
    ⟨"PRST", 0x20000000#32, 0xFFFFFFFF#32⟩,
    ⟨"PPUSH", 0x21000000#32, 0xFFFFFF00#32⟩ ] ++
  [ ⟨"SEQINC", 0x22000000#32, 0xFFFFFFFF#32⟩,
    ⟨"ENC", 0x23000000#32, 0xFFFFFFFF#32⟩,
    ⟨"FRD", 0x24000000#32, 0xFFFF0000#32⟩,
    ⟨"SIGW", 0x30000000#32, 0xFFFFFFFE#32⟩,
    ⟨"SEND", 0x31000000#32, 0xFFFFFFFF#32⟩,
    ⟨"RREG", 0x40000000#32, 0xFF00FFFF#32⟩,
    ⟨"WREG", 0x41000000#32, 0xFF000000#32⟩ ]

/-- The word selects the row (30_encoding.md R66). -/
def TableRow.selects (r : TableRow) (w : Word) : Bool := w &&& r.mask == r.pattern

/-- The mnemonic of a command, as the table of R66 spells it. -/
def mnemonicOf : Instr → String
  | .tbld => "TBLD"
  | .cinit => "CINIT"
  | .cbyte _ => "CBYTE"
  | .cfin => "CFIN"
  | .csum => "CSUM"
  | .trd _ => "TRD"
  | .prst => "PRST"
  | .ppush _ => "PPUSH"
  | .seqinc => "SEQINC"
  | .enc => "ENC"
  | .frd _ => "FRD"
  | .sigw _ => "SIGW"
  | .send => "SEND"
  | .rreg _ => "RREG"
  | .wreg _ _ => "WREG"

/-- The word a table row of `nbits` bits stands for: bit 0 of `w` is bit 0 of the command word, and every bit above
`nbits` is zero. A command is one word of 32 bits, so more than 32 bits are no command (30_encoding.md R65). -/
def tableWord (nbits w : Nat) : Option Word :=
  if nbits ≤ 32 then some (BitVec.ofNat 32 (w % 2 ^ nbits)) else none

/-- The command the decoder reads from a word numbered as spec/opcode_table.json numbers it. -/
def decodeTableWord (nbits w : Nat) : Option Instr :=
  match tableWord nbits w with
  | none => none
  | some v =>
    match decode v with
    | .command i => some i
    | .illegal _ => none

end Sys2Proof
end

