-- ==== Sys2Proof/Machine/Event.lean ====
section
/-! DEFINITION. What passes through the block's ports: the environment's answers and the events of the trace
(20_memory.md R50 to R54), the result codes (60_exceptions.md R170) and the response to the host (30_encoding.md
R70). -/

namespace Sys2Proof.Machine

/-- A level of the signal line: `low` is boolean false and asserted, `high` is true and deasserted (30_encoding.md
R64). -/
inductive Level where
  | low
  | high
  deriving DecidableEq, Repr

/-- The answer to a `SigWrite` request (20_memory.md R50). -/
inductive SigAnswer where
  | ok
  | fail
  deriving DecidableEq, Repr, Inhabited

/-- The answer to a `ChanWrite` request: how many bytes the channel accepted, any natural number, or an error
(R51). -/
inductive WriteAnswer where
  | count (n : Nat)
  | error
  deriving DecidableEq, Repr, Inhabited

/-- The answer to a `ChanRead` request: one byte, or an error (R52). -/
inductive ReadAnswer where
  | byte (b : Byte)
  | error
  deriving DecidableEq, Repr, Inhabited

/-- One event of the trace, with the environment's answer (R54). -/
inductive Event where
  | sigWrite (line : Half) (level : Level) (answer : SigAnswer)
  | delay (ticks : Half)
  | chanWrite (bytes : List Byte) (answer : WriteAnswer)
  | chanRead (answer : ReadAnswer)
  deriving DecidableEq, Repr

/-- What a claim may know of a line's level: the level, or that it is not known (10_state.md R31, 00_scope.md R5). -/
inductive LineLevel where
  | low
  | high
  | unknown
  deriving DecidableEq, Repr, Inhabited

/-- The result of a command (60_exceptions.md R170): success, an operation result, or a command fault. -/
inductive Result where
  | ok
  | signalFault
  | shortWrite
  | ackIo
  | nack
  | ackTimeout
  | badAck
  | illegalCommand
  | operandRange
  | payloadOverflow
  | badRegister
  deriving DecidableEq, Repr

/-- The response a command ends with (30_encoding.md R70). -/
structure Response where
  rc : Byte
  data : Word
  deriving DecidableEq, Repr

end Sys2Proof.Machine
end

