-- ==== Sys2Proof/Config.lean ====
section
/-! DEFINITION. What the spec leaves open (00_scope.md R5, 93_implementation_defined.md U9 to U13, U20): constants
without a body, so that nothing can be proved of their values and a statement holds whatever they are. The fixed
parameters of 00_scope.md R4 are not here: they must not be configurable, and stand in Machine/Params.lean. -/

namespace Sys2Proof

open Machine

/-- `SETTLE_RESET`: the reset value of `SETTLE` (00_scope.md R5, 10_state.md R23). Log entry 3. -/
opaque Config.settleReset : Half

/-- `LINE_RESET`: the reset value of `LINE` (R5, R24). Log entry 3. -/
opaque Config.lineReset : Half

/-- `T_SETTLE_TICK`: how long one count of `SETTLE` lasts, in a unit the platform names (R5, 20_memory.md R53). No
rule's result depends on it (70_reset_and_hazards.md R216). Log entry 12. -/
opaque Config.settleTick : Nat

/-- `SIG_RESET_LEVEL`: the level of each signal line before its first `SigWrite` (R5, 10_state.md R31). Log entry 5. -/
opaque Config.sigResetLevel : Half → LineLevel

/-- The reset content of the table `T`, by entry (10_state.md R25). Log entry 4. -/
opaque Config.tableReset : Nat → Word

/-- The reset content of the payload buffer `PB`, by index (R27). Log entry 4. -/
opaque Config.payloadReset : Nat → Byte

/-- The reset content of the frame buffer `FB`, by index (R28). Log entry 4. -/
opaque Config.frameReset : Nat → Byte

/-- The environment's answer to `SigWrite(line, level)` after the events so far (20_memory.md R50). Log entry 2. -/
opaque Config.sigAnswer : List Event → Half → Level → SigAnswer

/-- The environment's answer to `ChanWrite(bytes)` after the events so far (R51). Log entry 2. -/
opaque Config.writeAnswer : List Event → List Byte → WriteAnswer

/-- The environment's answer to `ChanRead()` after the events so far (R52). Log entry 2. -/
opaque Config.readAnswer : List Event → ReadAnswer

end Sys2Proof
end

