-- ==== Sys2Proof/Machine/Params.lean ====
section
/-! DEFINITION. The fixed parameters of the block (00_scope.md R4). -/

namespace Sys2Proof.Machine

/-- `PAYLOAD_SIZE`: bytes in the payload field of every frame. -/
def payloadSize : Nat := 2048

/-- `FRAME_SIZE`: bytes in every frame. -/
def frameSize : Nat := 2056

/-- `TABLE_SIZE`: entries of the checksum table. -/
def tableSize : Nat := 256

/-- `HDR_HI`: frame byte 0. -/
def headerHigh : Byte := 0x55#8

/-- `HDR_LO`: frame byte 1. -/
def headerLow : Byte := 0xAA#8

/-- `PAD`: the byte that fills a short payload. -/
def padByte : Byte := 0xFF#8

/-- `SEQ_FIRST`: the first sequence id of a session. -/
def seqFirst : Half := 0x0001#16

/-- `CRC_POLY`: the reflected CRC-32 polynomial. -/
def crcPoly : Word := 0xEDB88320#32

/-- `CRC_INIT`: the initial accumulator. -/
def crcInit : Word := 0xFFFFFFFF#32

/-- `CRC_XOROUT`: the final exclusive-or. -/
def crcXorOut : Word := 0xFFFFFFFF#32

/-- `DUMMY`: the byte written in each acknowledgment exchange. -/
def dummyByte : Byte := 0x00#8

/-- `LEVEL_ASSERTED`: the line level while a frame is written. -/
def levelAsserted : Level := .low

/-- `LEVEL_DEASSERTED`: the line level otherwise. -/
def levelDeasserted : Level := .high

end Sys2Proof.Machine
end

