-- ==== Sys2Proof/Machine/State.lean ====
section
/-! DEFINITION. The state of the block: every register and buffer of 10_state.md, the hidden step of a running `SEND`
(R29), and the model's record of what stands at the ports (trace, responses, words still to be issued, answers of the
environment already known). INVENTORY.md, heading State, names the rule of each. -/

namespace Sys2Proof.Machine

/-- The packet state machine's state, `STATUS.STATE` (10_state.md R14, 42_handshake.md R122). -/
inductive PacketState where
  | idle
  | selecting
  | transmitting
  | awaitingAck
  | acked
  | nacked
  | faulted
  deriving DecidableEq, Repr

/-- Where a running `SEND` stands: the six points of 10_state.md R29, each before one request of 42_handshake.md
R124. -/
inductive SendPoint where
  /-- Selecting, before the first `SigWrite`. -/
  | assertLine
  /-- Selecting, the line asserted, before the settle delay. -/
  | settle
  /-- Transmitting, before the frame is built and written. -/
  | writeFrame
  /-- Transmitting, the frame written, before the second `SigWrite`. -/
  | deassertLine
  /-- AwaitingAck, before an exchange's dummy `ChanWrite`. -/
  | pollWrite
  /-- AwaitingAck, the dummy byte written, before the `ChanRead`. -/
  | pollRead
  deriving DecidableEq, Repr

/-- The state of the block and of its ports. -/
structure State where
  /-- `STATUS.STATE` (R14). -/
  state : PacketState
  /-- `STATUS.TV`, the table has been built since reset (R26). -/
  tv : Bool
  /-- `ERR` (R15). -/
  err : Byte
  /-- `SEQ` (R16). -/
  seq : Half
  /-- `PLEN` (R17). -/
  plen : BitVec 12
  /-- `CRCACC` (R18). -/
  crcacc : Word
  /-- `CRCR` (R19). -/
  crcr : Word
  /-- `ACKB` (R20). -/
  ackb : Byte
  /-- `POLLCNT` (R21). -/
  pollcnt : Half
  /-- `POLLMAX` (R22). -/
  pollmax : Half
  /-- `SETTLE` (R23). -/
  settle : Half
  /-- `LINE` (R24). -/
  line : Half
  /-- The table `T`: the entries written since reset, rising (R25). -/
  table : List (Nat × Word)
  /-- The payload buffer `PB`: the bytes written since reset, rising (R27). -/
  pb : List Host.Cell
  /-- The frame buffer `FB`: the bytes written since reset, rising (R28). -/
  fb : List Host.Cell
  /-- The hidden step of a running `SEND`; none between commands (R29). -/
  point : Option SendPoint
  /-- The trace, oldest event first (20_memory.md R54, 10_state.md R32). -/
  trace : List Event
  /-- The responses given to the host, oldest first (30_encoding.md R70). -/
  responses : List Response
  /-- The command words the host has still to issue, next first (20_memory.md R44). -/
  cmds : List Word
  /-- Answers to `SigWrite` already known, next first (20_memory.md R50). -/
  sigIn : List SigAnswer
  /-- Answers to `ChanWrite` already known, next first (R51). -/
  writeIn : List WriteAnswer
  /-- Answers to `ChanRead` already known, next first (R52). -/
  readIn : List ReadAnswer
  deriving DecidableEq, Repr

/-- Why a step stops. -/
inductive Fault where
  /-- `PLEN` is above 2048, so `PB[0..PLEN)` runs past the payload buffer. Raised by `CSUM`, `ENC` and step 2 of
  `SEND`. Safe: the spec gives no meaning there (41_frame.md R104) and no reachable state has it (10_state.md R17). -/
  | payloadLength
  deriving DecidableEq, Repr

/-- Why an instruction has no meaning. -/
inductive Refusal where
  /-- The instruction's arm in Machine/Dispatch.lean gives it no meaning yet. Safe: the machine stops. No arm raises
  it now. -/
  | notModelled (mnemonic : String)
  deriving DecidableEq, Repr

/-- The state right after reset (10_state.md R13 and section 6, 70_reset_and_hazards.md R200, R201). -/
def State.reset : State where
  state := .idle
  tv := false
  err := 0x00#8
  seq := seqFirst
  plen := 0#12
  crcacc := crcInit
  crcr := 0x00000000#32
  ackb := 0x00#8
  pollcnt := 0x0000#16
  pollmax := 0x0000#16
  settle := Config.settleReset
  line := Config.lineReset
  table := []
  pb := []
  fb := []
  point := none
  trace := []
  responses := []
  cmds := []
  sigIn := []
  writeIn := []
  readIn := []

end Sys2Proof.Machine
end

