-- ==== Sys2Proof/Machine/Ops.lean ====
section
/-! DEFINITION. The named operations over the buffers, the command port and the environment's ports, and the one way a
command ends: with a response. The block has no traps (60_exceptions.md R184, R193): reporting a fault is answering
with its code, and there is nothing to return from. -/

namespace Sys2Proof.Machine

/-! ### Register writes -/

/-- `STATE <- st` (00_scope.md section 6). -/
def State.setState (s : State) (st : PacketState) : State := { s with state := st }

/-- `ERR <- e`. -/
def State.setErr (s : State) (e : Byte) : State := { s with err := e }

/-- `CRCACC <- a`. -/
def State.setCrcacc (s : State) (a : Word) : State := { s with crcacc := a }

/-- `CRCR <- c`. -/
def State.setCrcr (s : State) (c : Word) : State := { s with crcr := c }

/-- The running `SEND` stands before the request of this point next (10_state.md R29). -/
def State.goTo (s : State) (p : SendPoint) : State := { s with point := some p }

/-! ### Sparse buffers -/

/-- The element written at an index, if one has been. -/
def Cells.find {α : Type} (a : Nat) : List (Nat × α) → Option α
  | [] => none
  | (b, v) :: rest => if a = b then some v else Cells.find a rest

/-- Write one element, keeping the indices rising. -/
def Cells.write {α : Type} (a : Nat) (v : α) : List (Nat × α) → List (Nat × α)
  | [] => [(a, v)]
  | (b, w) :: rest =>
    if a < b then (a, v) :: (b, w) :: rest
    else if a = b then (a, v) :: rest
    else (b, w) :: Cells.write a v rest

/-- A sequence laid out from an index on. -/
def Cells.ofListFrom {α : Type} : Nat → List α → List (Nat × α)
  | _, [] => []
  | k, v :: rest => (k, v) :: Cells.ofListFrom (k + 1) rest

/-- A whole buffer written with a sequence, element 0 first. -/
def Cells.ofList {α : Type} (vs : List α) : List (Nat × α) := Cells.ofListFrom 0 vs

/-- The indices rise strictly, start at `lo` or above and stay below `size`. -/
def Cells.wfFrom {α : Type} (size : Nat) : Nat → List (Nat × α) → Bool
  | _, [] => true
  | lo, (a, _) :: rest => decide (lo ≤ a) && decide (a < size) && Cells.wfFrom size (a + 1) rest

/-- The canonical form of a buffer of `size` elements: strictly rising indices, all of them in the buffer. An index
that is not listed has not been written since reset, so no entry can equal what an unlisted one holds. -/
def Memory.wf {α : Type} (size : Nat) (m : List (Nat × α)) : Bool := Cells.wfFrom size 0 m

/-- `T[i]` (10_state.md R25). -/
def State.tableEntry (s : State) (i : Nat) : Word := (Cells.find i s.table).getD (Config.tableReset i)

/-- `MemRead(PB, a, 1)` (R27). -/
def State.payloadByte (s : State) (a : Nat) : Byte := (Cells.find a s.pb).getD (Config.payloadReset a)

/-- `MemRead(FB, a, 1)` (R28). -/
def State.frameByte (s : State) (a : Nat) : Byte := (Cells.find a s.fb).getD (Config.frameReset a)

/-- `PB[0..PLEN)` (R27). -/
def State.payload (s : State) : List Byte := (List.range s.plen.toNat).map s.payloadByte

/-- `PB[0..PLEN)`, where `PLEN` is a length the buffer has (10_state.md R17, R27). -/
def State.payload? (s : State) : Option (List Byte) :=
  if s.plen.toNat ≤ payloadSize then some s.payload else none

/-! ### Result codes and responses -/

/-- The number of a result (60_exceptions.md R170). -/
def Result.code : Result → Byte
  | .ok => 0x00#8
  | .signalFault => 0x01#8
  | .shortWrite => 0x02#8
  | .ackIo => 0x03#8
  | .nack => 0x04#8
  | .ackTimeout => 0x05#8
  | .badAck => 0x06#8
  | .illegalCommand => 0x10#8
  | .operandRange => 0x11#8
  | .payloadOverflow => 0x12#8
  | .badRegister => 0x13#8

/-- `respond(rc, data)`: end the command and hand the host the response (00_scope.md section 6, 30_encoding.md R70). -/
def State.respond (s : State) (r : Result) (data : Word) : State :=
  { s with responses := s.responses ++ [⟨r.code, data⟩] }

/-- `raise <Fault>`: a command fault. The response is `(rc, 0)` and nothing else changes (60_exceptions.md R172). -/
def State.raise (s : State) (r : Result) : State := s.respond r 0#32

/-! ### The command port -/

/-- The state with the host's next word taken (20_memory.md R44). -/
def State.commandTaken (s : State) : State := { s with cmds := s.cmds.tail }

/-- The word the host issues next, and the state with it taken; none while the host issues none (20_memory.md R44). -/
def State.takeCommand (s : State) : Option (Word × State) :=
  match s.cmds with
  | [] => none
  | w :: _ => some (w, s.commandTaken)

/-- Make `w` the word that is issued next, with no `SEND` still running, so that the very next step runs it. -/
def State.placeCommand (s : State) (w : Word) : State :=
  { s with cmds := w :: s.cmds, point := none }

/-! ### Requests to the environment -/

/-- The answer to `SigWrite(line, level)`: the next one already known, else a free value (20_memory.md R50). -/
def State.sigAnswer (s : State) (line : Half) (level : Level) : SigAnswer :=
  s.sigIn.headD (Config.sigAnswer s.trace line level)

/-- The answer to `ChanWrite(bytes)` (R51). -/
def State.writeAnswer (s : State) (bytes : List Byte) : WriteAnswer :=
  s.writeIn.headD (Config.writeAnswer s.trace bytes)

/-- The answer to `ChanRead()` (R52). -/
def State.readAnswer (s : State) : ReadAnswer :=
  s.readIn.headD (Config.readAnswer s.trace)

/-- `SigWrite(line, level)` made and answered: one event, one answer used (R50, R54). -/
def State.sigWrite (s : State) (line : Half) (level : Level) : State :=
  { s with trace := s.trace ++ [.sigWrite line level (s.sigAnswer line level)], sigIn := s.sigIn.tail }

/-- `Delay(k)`: one event, no answer (R53, R54). -/
def State.delay (s : State) (ticks : Half) : State :=
  { s with trace := s.trace ++ [.delay ticks] }

/-- `ChanWrite(bytes)` made and answered (R51, R54). -/
def State.chanWrite (s : State) (bytes : List Byte) : State :=
  { s with trace := s.trace ++ [.chanWrite bytes (s.writeAnswer bytes)], writeIn := s.writeIn.tail }

/-- `ChanRead()` made and answered (R52, R54). -/
def State.chanRead (s : State) : State :=
  { s with trace := s.trace ++ [.chanRead s.readAnswer], readIn := s.readIn.tail }

/-! ### What the trace says of the outside -/

/-- The level of a line as one event leaves it: the level written when the write was answered `ok`, unknown when it
was answered `fail` (10_state.md R31). -/
def levelAfter (line : Half) (before : LineLevel) : Event → LineLevel
  | .sigWrite l level answer =>
    if l = line then
      match answer, level with
      | .ok, .low => .low
      | .ok, .high => .high
      | .fail, _ => .unknown
    else before
  | .delay _ => before
  | .chanWrite _ _ => before
  | .chanRead _ => before

/-- The level of a line, a function of the trace (10_state.md R31). -/
def State.lineLevel (s : State) (line : Half) : LineLevel :=
  s.trace.foldl (levelAfter line) (Config.sigResetLevel line)

/-- How long `Delay(k)` lasts, in the platform's unit (20_memory.md R53); no rule's result depends on it. -/
def delayTime (ticks : Half) : Nat := ticks.toNat * Config.settleTick

end Sys2Proof.Machine
end

