-- ==== Sys2Proof/Machine/Operands.lean ====
section
/-! DEFINITION. The operand forms of the commands: register indices (10_state.md R12, R13), the `SIGW` flag
(42_handshake.md R120), the frame offset (41_frame.md R106) and the bytes of wider values (20_memory.md R41). -/

namespace Sys2Proof.Machine

/-- The 11 control registers (10_state.md R13). -/
inductive Reg where
  | status
  | err
  | seq
  | plen
  | crcacc
  | crcr
  | ackb
  | pollcnt
  | pollmax
  | settle
  | line
  deriving DecidableEq, Repr

/-- The register an index names; 0x0B to 0xFF name none (10_state.md R13). -/
def Reg.ofIndex (r : Byte) : Option Reg :=
  match r with
  | 0x00#8 => some .status
  | 0x01#8 => some .err
  | 0x02#8 => some .seq
  | 0x03#8 => some .plen
  | 0x04#8 => some .crcacc
  | 0x05#8 => some .crcr
  | 0x06#8 => some .ackb
  | 0x07#8 => some .pollcnt
  | 0x08#8 => some .pollmax
  | 0x09#8 => some .settle
  | 0x0A#8 => some .line
  | _ => none

/-- `x[r] <- v` for the register an index names, where it is one of the four writable ones (43_access.md R161). -/
def State.writeReg (s : State) (r : Byte) (v : Half) : Option State :=
  match Reg.ofIndex r with
  | some .seq => some { s with seq := v }
  | some .pollmax => some { s with pollmax := v }
  | some .settle => some { s with settle := v }
  | some .line => some { s with line := v }
  | some .status | some .err | some .plen | some .crcacc | some .crcr | some .ackb | some .pollcnt => none
  | none => none

/-- The level `SIGW` writes for its asserted flag: the line is active low (42_handshake.md R120, 90_conflicts.md C1). -/
def levelOf (asserted : Bool) : Level := if asserted then levelAsserted else levelDeasserted

/-- The upper byte of a 16-bit value, sent first where the order is big-endian (20_memory.md R41). -/
def highByte (v : Half) : Byte := v.extractLsb' 8 8

/-- The lower byte of a 16-bit value. -/
def lowByte (v : Half) : Byte := v.extractLsb' 0 8

/-- The four bytes of a word, least significant first (20_memory.md R41, 30_encoding.md R62). -/
def littleEndian (c : Word) : List Byte :=
  [c.extractLsb' 0 8, c.extractLsb' 8 8, c.extractLsb' 16 8, c.extractLsb' 24 8]

end Sys2Proof.Machine
end

