-- ==== Sys2Proof/Machine/Flags.lean ====
section
/-! DEFINITION. The block's only flags, the fields of `STATUS` (10_state.md R14), the value each register reads as
(R12), the class of an acknowledgment byte (30_encoding.md R63, R69) and the saturating poll count (10_state.md R21).
There are no carry, zero or overflow flags (40_crc.md R90). -/

namespace Sys2Proof.Machine

/-- The code of a packet state in `STATUS[2:0]` (10_state.md R14); 7 is never held. -/
def PacketState.code : PacketState → BitVec 3
  | .idle => 0#3
  | .selecting => 1#3
  | .transmitting => 2#3
  | .awaitingAck => 3#3
  | .acked => 4#3
  | .nacked => 5#3
  | .faulted => 6#3

/-- The 4 bits of `STATUS`: `TV` above `STATE` (10_state.md R14). -/
def State.status (s : State) : BitVec 4 := BitVec.ofBool s.tv ++ s.state.code

/-- The value a control register reads as, zero-extended to 32 bits (10_state.md R12). -/
def State.readReg (s : State) : Reg → Word
  | .status => s.status.setWidth 32
  | .err => s.err.setWidth 32
  | .seq => s.seq.setWidth 32
  | .plen => s.plen.setWidth 32
  | .crcacc => s.crcacc
  | .crcr => s.crcr
  | .ackb => s.ackb.setWidth 32
  | .pollcnt => s.pollcnt.setWidth 32
  | .pollmax => s.pollmax.setWidth 32
  | .settle => s.settle.setWidth 32
  | .line => s.line.setWidth 32

/-- The class of an acknowledgment byte (30_encoding.md R63). -/
inductive AckClass where
  | pending
  | ack
  | nack
  | reserved
  deriving DecidableEq, Repr

/-- Decoding of the acknowledgment byte by its full value (30_encoding.md R63, R69). -/
def ackClass (b : Byte) : AckClass :=
  match b with
  | 0x06#8 => .ack
  | 0x15#8 => .nack
  | 0x00#8 => .pending
  | 0xFF#8 => .pending
  | _ => .reserved

/-- `min(POLLCNT + 1, 0xFFFF)` (42_handshake.md R124). -/
def pollSucc (n : Half) : Half := if n = 0xFFFF#16 then n else n + 1#16

/-- The bound on exchanges is set and reached (42_handshake.md R131). -/
def State.pollBoundReached (s : State) : Bool := s.pollmax != 0#16 && s.pollcnt == s.pollmax

end Sys2Proof.Machine
end

