-- ==== Sys2Proof/Machine/Checksum.lean ====
section
/-! DEFINITION. The Checksum Engine: the functions of 40_crc.md R80, R82 to R84 and the meanings of `TBLD`, `CINIT`,
`CBYTE`, `CFIN`, `CSUM` and `TRD` (R81, R85 to R89). The construction of the table and the byte step are supplied by
the spec from general knowledge (93 G1, G2; log entry 11). -/

namespace Sys2Proof.Machine

/-- `Shift1(c)` (40_crc.md R80). -/
def shift1 (c : Word) : Word := if c.getLsbD 0 then (c >>> 1) ^^^ crcPoly else c >>> 1

/-- `Shift1` applied 8 times. -/
def shift8 (c : Word) : Word := shift1 (shift1 (shift1 (shift1 (shift1 (shift1 (shift1 (shift1 c)))))))

/-- `Entry(i)` (R80). -/
def crcEntry (i : Nat) : Word := shift8 (BitVec.ofNat 32 i)

/-- The content of a built table (R80). -/
def builtTable : List (Nat × Word) := Cells.ofList ((List.range tableSize).map crcEntry)

/-- The table build: all 256 entries and `TV` (R81, R82). -/
def State.buildTable (s : State) : State := { s with table := builtTable, tv := true }

/-- `EnsureTable()` (R82). -/
def State.ensureTable (s : State) : State := if s.tv then s else s.buildTable

/-- `CrcStep(a, b)` with the table `t` (R83). -/
def crcStep (t : Nat → Word) (a : Word) (b : Byte) : Word :=
  t ((a ^^^ b.setWidth 32).extractLsb' 0 8).toNat ^^^ (a >>> 8)

/-- `CRC32(B)` with the table `t` (R84). -/
def crc32 (t : Nat → Word) (bytes : List Byte) : Word := bytes.foldl (crcStep t) crcInit ^^^ crcXorOut

/-- `TBLD` (R81). -/
def execTbld (s : State) : Host.Outcome State Fault Refusal :=
  .next (s.buildTable.respond .ok 0#32)

/-- `CINIT` (R85). -/
def execCinit (s : State) : Host.Outcome State Fault Refusal :=
  .next ((s.setCrcacc crcInit).respond .ok 0#32)

/-- `CBYTE b` (R86). -/
def execCbyte (b : Byte) (s : State) : Host.Outcome State Fault Refusal :=
  let s := s.ensureTable
  .next ((s.setCrcacc (crcStep s.tableEntry s.crcacc b)).respond .ok 0#32)

/-- `CFIN` (R87). -/
def execCfin (s : State) : Host.Outcome State Fault Refusal :=
  let c := s.crcacc ^^^ crcXorOut
  .next ((s.setCrcr c).respond .ok c)

/-- `CSUM` (R88). -/
def execCsum (s : State) : Host.Outcome State Fault Refusal :=
  let s := s.ensureTable
  match s.payload? with
  | none => .fault .payloadLength
  | some p =>
    let c := crc32 s.tableEntry p
    .next ((s.setCrcr c).respond .ok c)

/-- `TRD i` (R89). -/
def execTrd (i : Byte) (s : State) : Host.Outcome State Fault Refusal :=
  let s := s.ensureTable
  .next (s.respond .ok (s.tableEntry i.toNat))

end Sys2Proof.Machine
end

