-- ==== Sys2Proof/Machine/Frame.lean ====
section
/-! DEFINITION. The Frame Encoder: `Encode` (41_frame.md R104, 30_encoding.md R60 to R62) and the meanings of `PRST`,
`PPUSH`, `SEQINC`, `ENC` and `FRD` (R101 to R103, R105, R106). -/

namespace Sys2Proof.Machine

/-- The 2048-byte payload field: the payload, padded with 0xFF when short (41_frame.md R104). -/
def payloadField (p : List Byte) : List Byte := p ++ List.replicate (payloadSize - p.length) padByte

/-- `Encode(seq, P)` with the table `t` (R104). -/
def encodeFrame (t : Nat → Word) (seq : Half) (p : List Byte) : List Byte :=
  [headerHigh, headerLow, highByte seq, lowByte seq] ++ payloadField p ++ littleEndian (crc32 t (payloadField p))

/-- `FB[0..2056) <- F` (R105, 42_handshake.md R127). -/
def State.storeFrame (s : State) (f : List Byte) : State := { s with fb := Cells.ofList f }

/-- `PRST` (41_frame.md R101). -/
def execPrst (s : State) : Host.Outcome State Fault Refusal :=
  .next ({ s with plen := 0#12 }.respond .ok 0#32)

/-- `PPUSH b` (R102, R175); the check is R66's `PLEN < 2048`. -/
def execPpush (b : Byte) (s : State) : Host.Outcome State Fault Refusal :=
  if s.plen.toNat < payloadSize then
    .next ({ s with pb := Cells.write s.plen.toNat b s.pb, plen := s.plen + 1#12 }.respond .ok 0#32)
  else .next (s.raise .payloadOverflow)

/-- `SEQINC` (R103). -/
def execSeqinc (s : State) : Host.Outcome State Fault Refusal :=
  .next ({ s with seq := s.seq + 1#16 }.respond .ok 0#32)

/-- `ENC` (R105). -/
def execEnc (s : State) : Host.Outcome State Fault Refusal :=
  let s := s.ensureTable
  match s.payload? with
  | none => .fault .payloadLength
  | some p => .next ((s.storeFrame (encodeFrame s.tableEntry s.seq p)).respond .ok 0#32)

/-- `FRD a` (R106, R174). -/
def execFrd (a : Half) (s : State) : Host.Outcome State Fault Refusal :=
  if a.toNat < frameSize then .next (s.respond .ok ((s.frameByte a.toNat).setWidth 32))
  else .next (s.raise .operandRange)

end Sys2Proof.Machine
end

