-- ==== Sys2Proof/Machine/Handshake.lean ====
section
/-! DEFINITION. The Handshake Controller: `SIGW` (42_handshake.md R121), `SEND` (R124) and the steps of a running
`SEND`, one for each point of 10_state.md R29. `SEND` starts the packet; each later step makes one request, so that the
environment answers between them and an unbounded poll is an unending run (70_reset_and_hazards.md R211; log entry
1). -/

namespace Sys2Proof.Machine

/-- `SIGW a` (R120, R121). -/
def execSigw (asserted : Bool) (s : State) : Host.Outcome State Fault Refusal :=
  let level := levelOf asserted
  let r : Result :=
    match s.sigAnswer s.line level with
    | .ok => .ok
    | .fail => .signalFault
  .next (((s.sigWrite s.line level).setErr r.code).respond r 0#32)

/-- `SEND`: `POLLCNT <- 0; STATE <- Selecting`, and the packet is under way (R124). -/
def execSend (s : State) : Host.Outcome State Fault Refusal :=
  .next { s with pollcnt := 0#16, state := .selecting, point := some .assertLine }

/-- `finish(st, r)`: `STATE <- st; ERR <- r; respond(r, 0)`, ending the command (R124, R132). -/
def State.finish (s : State) (st : PacketState) (r : Result) : State :=
  { s with state := st, err := r.code, point := none, responses := s.responses ++ [⟨r.code, 0#32⟩] }

/-- Step 1: `SigWrite(LINE, low)` (R125). -/
def sendAssertLine (s : State) : Host.Outcome State Fault Refusal :=
  let t := s.sigWrite s.line levelAsserted
  .next (match s.sigAnswer s.line levelAsserted with
    | .fail => t.finish .faulted .signalFault
    | .ok => t.goTo .settle)

/-- The settle delay: `Delay(SETTLE); STATE <- Transmitting` (R126). -/
def sendSettle (s : State) : Host.Outcome State Fault Refusal :=
  .next (((s.delay s.settle).setState .transmitting).goTo .writeFrame)

/-- The whole frame was accepted: not an error and not a count below 2056 (R127). -/
def frameAccepted : WriteAnswer → Bool
  | .count n => decide (frameSize ≤ n)
  | .error => false

/-- Step 2: build the frame into `FB` and write it in one operation (R127). -/
def sendWriteFrame (s : State) : Host.Outcome State Fault Refusal :=
  let s := s.ensureTable
  match s.payload? with
  | none => .fault .payloadLength
  | some p =>
    let f := encodeFrame s.tableEntry s.seq p
    let t := (s.storeFrame f).chanWrite f
    .next (if frameAccepted (s.writeAnswer f) then t.goTo .deassertLine
      else t.finish .faulted .shortWrite)

/-- Step 3: `SigWrite(LINE, high)` (R128). -/
def sendDeassertLine (s : State) : Host.Outcome State Fault Refusal :=
  let t := s.sigWrite s.line levelDeasserted
  .next (match s.sigAnswer s.line levelDeasserted with
    | .fail => t.finish .faulted .signalFault
    | .ok => (t.setState .awaitingAck).goTo .pollWrite)

/-- Step 4, before an exchange: the bound, then the dummy write (R129, R131). -/
def sendPollWrite (s : State) : Host.Outcome State Fault Refusal :=
  let t := s.chanWrite [dummyByte]
  .next (if s.pollBoundReached then s.finish .faulted .ackTimeout
    else match s.writeAnswer [dummyByte] with
      | .count 1 => t.goTo .pollRead
      | .count _ => t.finish .faulted .ackIo
      | .error => t.finish .faulted .ackIo)

/-- `POLLCNT <- min(POLLCNT + 1, 0xFFFF); ACKB <- b` (R129). -/
def State.countExchange (s : State) (b : Byte) : State := { s with pollcnt := pollSucc s.pollcnt, ackb := b }

/-- The end of a completed exchange: count it, keep the byte, decode it (R129, R130). -/
def State.exchanged (s : State) (b : Byte) : State :=
  let t := s.countExchange b
  match ackClass b with
  | .ack => t.finish .acked .ok
  | .nack => t.finish .nacked .nack
  | .pending => t.goTo .pollWrite
  | .reserved => t.finish .faulted .badAck

/-- Step 4, the `ChanRead` of an exchange (R129). -/
def sendPollRead (s : State) : Host.Outcome State Fault Refusal :=
  .next (match s.readAnswer with
    | .error => s.chanRead.finish .faulted .ackIo
    | .byte b => s.chanRead.exchanged b)

/-- One step of a running `SEND`, by the point it stands at (10_state.md R29, 42_handshake.md R124). -/
def advanceSend (p : SendPoint) (s : State) : Host.Outcome State Fault Refusal :=
  match p with
  | .assertLine => sendAssertLine s
  | .settle => sendSettle s
  | .writeFrame => sendWriteFrame s
  | .deassertLine => sendDeassertLine s
  | .pollWrite => sendPollWrite s
  | .pollRead => sendPollRead s

end Sys2Proof.Machine
end

