-- ==== Sys2Proof/Machine/Access.lean ====
section
/-! DEFINITION. The register access commands `RREG` and `WREG` (43_access.md R160, R161, R176), and what the block
answers to a word that is no command (60_exceptions.md R173). -/

namespace Sys2Proof.Machine

/-- `RREG r` (43_access.md R160). -/
def execRreg (r : Byte) (s : State) : Host.Outcome State Fault Refusal :=
  match Reg.ofIndex r with
  | none => .next (s.raise .badRegister)
  | some x => .next (s.respond .ok (s.readReg x))

/-- `WREG r, v` (R161). -/
def execWreg (r : Byte) (v : Half) (s : State) : Host.Outcome State Fault Refusal :=
  match s.writeReg r v with
  | none => .next (s.raise .badRegister)
  | some t => .next (t.respond .ok 0#32)

/-- A word that matches no row of the command table: `IllegalCommand` (60_exceptions.md R173). -/
def execIllegal (s : State) : Host.Outcome State Fault Refusal := .next (s.raise .illegalCommand)

end Sys2Proof.Machine
end

