-- ==== Sys2Proof/Machine/Dispatch.lean ====
section
/-! DEFINITION. Every command's meaning, by its constructor. -/

namespace Sys2Proof.Machine

def exec (i : Instr) (s : State) : Host.Outcome State Fault Refusal :=
  match i with
  -- Checksum Engine (40_crc.md)
  | .tbld => Sys2Proof.Machine.execTbld s
  | .cinit => Sys2Proof.Machine.execCinit s
  | .cbyte b => Sys2Proof.Machine.execCbyte b s
  | .cfin => Sys2Proof.Machine.execCfin s
  | .csum => Sys2Proof.Machine.execCsum s
  | .trd k => Sys2Proof.Machine.execTrd k s
  -- Frame Encoder (41_frame.md)
  | .prst => Sys2Proof.Machine.execPrst s
  | .ppush b => Sys2Proof.Machine.execPpush b s
  | .seqinc => Sys2Proof.Machine.execSeqinc s
  | .enc => Sys2Proof.Machine.execEnc s
  | .frd a => Sys2Proof.Machine.execFrd a s
  -- Handshake Controller (42_handshake.md)
  | .sigw asserted => Sys2Proof.Machine.execSigw asserted s
  | .send => Sys2Proof.Machine.execSend s
  -- register access (43_access.md)
  | .rreg r => Sys2Proof.Machine.execRreg r s
  | .wreg r v => Sys2Proof.Machine.execWreg r v s

end Sys2Proof.Machine
end

