-- ==== Sys2Proof/Machine/Step.lean ====
section
/-! DEFINITION. One step of the machine. While a `SEND` runs the host is suspended and the step carries the `SEND` one
request further; otherwise the block takes the word the host issues next and runs it (20_memory.md R44, 30_encoding.md
R73). While the host issues none, the block waits. -/

namespace Sys2Proof.Machine

/-- One step (20_memory.md R44, R46; 30_encoding.md R73). -/
def step (s : State) : Host.Outcome State Fault Refusal :=
  match s.point with
  | some p => advanceSend p s
  | none =>
    match s.takeCommand with
    | none => .next s
    | some (w, t) =>
      match decode w with
      | .command i => exec i t
      | .illegal _ => execIllegal t

/-- `s` with a table word as the command the host issues next. -/
def State.withFetchWord (s : State) (nbits w : Nat) : State :=
  match tableWord nbits w with
  | none => s
  | some v => s.placeCommand v

end Sys2Proof.Machine
end

