-- ==== Sys2Proof/Safety.lean ====
section
/-! DEFINITION. What the spec promises of every state the block can be in, as one invariant, and the words statements
about runs are made of: the block at rest, the commands still to be issued, a run of steps. -/

namespace Sys2Proof.Machine

/-- The packet state held at a point of a running `SEND` (10_state.md R29, 42_handshake.md R122). -/
def SendPoint.packetState : SendPoint → PacketState
  | .assertLine => .selecting
  | .settle => .selecting
  | .writeFrame => .transmitting
  | .deassertLine => .transmitting
  | .pollWrite => .awaitingAck
  | .pollRead => .awaitingAck

/-- `STATUS.STATE` agrees with the hidden step: between commands it is Idle, Acked, Nacked or Faulted, and Acked and
Nacked go with the byte that caused them (10_state.md R14, R29; 42_handshake.md R123, R124). -/
def State.phaseOk (s : State) : Prop :=
  match s.point with
  | some p => s.state = p.packetState
  | none =>
    s.state = .idle ∨ (s.state = .acked ∧ s.ackb = 0x06#8) ∨ (s.state = .nacked ∧ s.ackb = 0x15#8) ∨
      s.state = .faulted

/-- The poll count of a running `SEND`: zero before the first exchange, never past a bound that is set
(10_state.md R21, 42_handshake.md R131). -/
def State.pollsOk (s : State) : Prop :=
  match s.point with
  | none => True
  | some .assertLine => s.pollcnt = 0#16
  | some .settle => s.pollcnt = 0#16
  | some .writeFrame => s.pollcnt = 0#16
  | some .deassertLine => s.pollcnt = 0#16
  | some .pollWrite => s.pollmax ≠ 0#16 → s.pollcnt.toNat ≤ s.pollmax.toNat
  | some .pollRead => s.pollmax ≠ 0#16 → s.pollcnt.toNat < s.pollmax.toNat

/-- The frame that a running `SEND` has written is the one of the current `SEQ` and payload, and before step 3 the last
event is its write in full, a count of 2056 or more (42_handshake.md R123, R127, R133). -/
def State.sentOk (s : State) : Prop :=
  match s.point with
  | none => True
  | some .assertLine => True
  | some .settle => True
  | some .writeFrame => True
  | some .deassertLine =>
    s.fb = Cells.ofList (encodeFrame crcEntry s.seq s.payload) ∧
      ∃ n, frameSize ≤ n ∧ s.trace.getLast? = some (.chanWrite (encodeFrame crcEntry s.seq s.payload) (.count n))
  | some .pollWrite => s.fb = Cells.ofList (encodeFrame crcEntry s.seq s.payload)
  | some .pollRead => s.fb = Cells.ofList (encodeFrame crcEntry s.seq s.payload)

/-- The signal line while a `SEND` runs: low from the assert to the deassert, high while it polls (10_state.md R31,
42_handshake.md R134). -/
def State.lineOk (s : State) : Prop :=
  match s.point with
  | none => True
  | some .assertLine => True
  | some .settle => s.lineLevel s.line = .low
  | some .writeFrame => s.lineLevel s.line = .low
  | some .deassertLine => s.lineLevel s.line = .low
  | some .pollWrite => s.lineLevel s.line = .high
  | some .pollRead => s.lineLevel s.line = .high

/-- What holds of the block in every state it can be in. -/
structure State.Inv (s : State) : Prop where
  /-- `PLEN` is 0 to 2048 (10_state.md R17). -/
  plen_le : s.plen.toNat ≤ payloadSize
  /-- `ERR` is 0x00 to 0x06 (R15). -/
  err_le : s.err.toNat ≤ 6
  /-- The buffers are in canonical form and inside their index ranges (20_memory.md R40). -/
  table_wf : Memory.wf tableSize s.table = true
  pb_wf : Memory.wf payloadSize s.pb = true
  fb_wf : Memory.wf frameSize s.fb = true
  /-- `TV` = 1 says that the table is built (10_state.md R26). -/
  table_built : s.tv = true → s.table = builtTable
  /-- Every byte below `PLEN` has been pushed (R27). -/
  payload_written : ∀ a, a < s.plen.toNat → (Cells.find a s.pb).isSome = true
  /-- `FB` is its reset content or one whole frame (41_frame.md R109). -/
  frame_whole : s.fb = [] ∨
    ∃ seq p, p.length ≤ payloadSize ∧ s.fb = Cells.ofList (encodeFrame crcEntry seq p)
  phase : s.phaseOk
  polls : s.pollsOk
  sent : s.sentOk
  line_level : s.lineOk

/-- The command in execution: a running `SEND`, else the command the host issues next, where its word is one. -/
def State.current (s : State) : Option Instr :=
  match s.point with
  | some _ => some .send
  | none =>
    match s.cmds with
    | [] => none
    | w :: _ =>
      match decode w with
      | .command i => some i
      | .illegal _ => none

/-- The two events of a completed exchange that read `b` (42_handshake.md R129, R135). -/
def exchangeEvents (b : Byte) : List Event := [.chanWrite [0x00#8] (.count 1), .chanRead (.byte b)]

/-- `k` steps of the machine, ending at the first fault or refusal. -/
def runSteps : Nat → State → Host.Outcome State Fault Refusal
  | 0, s => .next s
  | k + 1, s =>
    match step s with
    | .next t => runSteps k t
    | .fault r => .fault r
    | .refused r => .refused r

end Sys2Proof.Machine
end

