-- ==== Sys2Proof/Certificates/Slice0/Obligations.lean ====
section
/-! DEFINITION. The statements about the block, each from the rules of spec/ that its docstring names. Response codes
and data are written as the numbers of 60_exceptions.md R170. -/

open Sys2Proof Sys2Proof.Machine

/-! ### Command words -/

/-- Words of the programs and decode vectors of 95_test_vectors.md sections 5 and 8, one or more a family. -/
def Obligations.DecodeReadsSpecWords : Prop :=
  decode 0x10000000#32 = .command .tbld ∧ decode 0x12000031#32 = .command (.cbyte 0x31#8) ∧
  decode 0x150000FF#32 = .command (.trd 0xFF#8) ∧ decode 0x210000AB#32 = .command (.ppush 0xAB#8) ∧
  decode 0x23000000#32 = .command .enc ∧ decode 0x24000807#32 = .command (.frd 2055#16) ∧
  decode 0x30000001#32 = .command (.sigw true) ∧
  decode 0x31000000#32 = .command .send ∧ decode 0x400A0000#32 = .command (.rreg 0x0A#8) ∧
  decode 0x41080064#32 = .command (.wreg 0x08#8 100#16) ∧
  decode 0x00000000#32 = .illegal (.unlistedOp 0x00#8) ∧ decode 0xFFFFFFFF#32 = .illegal (.unlistedOp 0xFF#8) ∧
  decode 0x12000100#32 = .illegal (.nonzeroField 0x12#8) ∧ decode 0x30000002#32 = .illegal (.nonzeroField 0x30#8)

/-- Every command, with every operand its encoding admits, is what its word decodes to (30_encoding.md R65 to R67). -/
def Obligations.DecodeInvertsEncode : Prop := ∀ i : Instr, decode (encode i) = .command i

/-- Every word that decodes is the word of the command it decodes to, so no two words are one command (R66, R67). -/
def Obligations.EncodeInvertsDecode : Prop := ∀ (w : Word) (i : Instr), decode w = .command i → encode i = w

/-- The decoder and the `match` and `mask` columns of 30_encoding.md R66 agree on every word, mnemonic by mnemonic. -/
def Obligations.DecodeFollowsCommandTable : Prop :=
  ∀ w : Word,
    (∀ i, decode w = .command i → ∃ r ∈ commandTable, r.mnemonic = mnemonicOf i ∧ w &&& r.mask = r.pattern) ∧
    (∀ r ∈ commandTable, w &&& r.mask = r.pattern → ∃ i, decode w = .command i ∧ mnemonicOf i = r.mnemonic)

/-- "at most one row matches" (30_encoding.md R66). -/
def Obligations.CommandTableRowsAreDisjoint : Prop :=
  ∀ w : Word, ∀ r ∈ commandTable, ∀ r' ∈ commandTable,
    w &&& r.mask = r.pattern → w &&& r'.mask = r'.pattern → r = r'

/-- A word that matches no row is answered `(0x10, 0)`; it is used up and nothing else changes (60_exceptions.md
R173). -/
def Obligations.IllegalWordRaisesIllegalCommand : Prop :=
  ∀ (s : State) (w : Word) (rest : List Word), s.point = none → s.cmds = w :: rest →
    (∀ r ∈ commandTable, w &&& r.mask ≠ r.pattern) →
    step s = .next { s with cmds := rest, responses := s.responses ++ [⟨0x10#8, 0#32⟩] }

/-! ### The machine's step -/

/-- Between commands, a step is the meaning of the command the host's next word decodes to, with that word used up
(20_memory.md R44, 30_encoding.md R73). -/
def Obligations.StepRunsDecodedCommand : Prop :=
  ∀ (s : State) (w : Word) (rest : List Word) (i : Instr), s.point = none → s.cmds = w :: rest →
    decode w = .command i → step s = exec i { s with cmds := rest }

/-- While the host issues nothing the block waits, unchanged: the model's reading of "waits for its first command"
(70_reset_and_hazards.md section 1), log entry 6. -/
def Obligations.StepWaitsForHost : Prop :=
  ∀ s : State, s.point = none → s.cmds = [] → step s = .next s

/-- The host is suspended while a `SEND` runs: no step of it takes a word (20_memory.md section 4). -/
def Obligations.RunningSendTakesNoWord : Prop :=
  ∀ s t : State, s.point ≠ none → step s = .next t → t.cmds = s.cmds

/-- What reset leaves (70_reset_and_hazards.md R200, R201): every control register at its reset value, an empty trace, the
line at its open reset level, and a block that waits for its first command. `SETTLE_RESET`, `LINE_RESET` and
`SIG_RESET_LEVEL` are open parameters. -/
def Obligations.ResetLeavesSpecValues : Prop :=
  State.reset.readReg .status = 0x0#32 ∧ State.reset.readReg .err = 0x00#32 ∧
  State.reset.readReg .seq = 0x0001#32 ∧ State.reset.readReg .plen = 0x000#32 ∧
  State.reset.readReg .crcacc = 0xFFFFFFFF#32 ∧ State.reset.readReg .crcr = 0x00000000#32 ∧
  State.reset.readReg .ackb = 0x00#32 ∧ State.reset.readReg .pollcnt = 0x0000#32 ∧
  State.reset.readReg .pollmax = 0x0000#32 ∧ State.reset.readReg .settle = Config.settleReset.setWidth 32 ∧
  State.reset.readReg .line = Config.lineReset.setWidth 32 ∧ State.reset.state = .idle ∧ State.reset.tv = false ∧
  State.reset.trace = [] ∧ (∀ l, State.reset.lineLevel l = Config.sigResetLevel l) ∧
  step State.reset = .next State.reset

/-! ### The Checksum Engine -/

/-- `CrcStep` with the table equals eight shifts without it (40_crc.md section 1, the equivalence the spec marks as
derived; the step itself is supplied from general knowledge, log entry 11). -/
def Obligations.CrcStepIsEightShifts : Prop :=
  ∀ (a : Word) (b : Byte), crcStep crcEntry a b = shift8 (a ^^^ b.setWidth 32)

/-- `TBLD` (40_crc.md R81). -/
def Obligations.TbldBuildsTable : Prop :=
  decode 0x10000000#32 = .command .tbld ∧
  ∀ s : State, ∃ t, exec .tbld s = .next t ∧
    t = { s with table := t.table, tv := true, responses := s.responses ++ [⟨0x00#8, 0#32⟩] } ∧
    (∀ i, i < 256 → t.tableEntry i = crcEntry i) ∧
    (s.tv = true → s.table = builtTable → t = { s with responses := s.responses ++ [⟨0x00#8, 0#32⟩] })

/-- `CINIT` (R85). -/
def Obligations.CinitStartsChecksum : Prop :=
  decode 0x11000000#32 = .command .cinit ∧
  ∀ s : State, exec .cinit s =
    .next { s with crcacc := 0xFFFFFFFF#32, responses := s.responses ++ [⟨0x00#8, 0#32⟩] }

/-- `CBYTE b` (R86); the hypothesis is a clause of the invariant, `State.Inv.table_built`. -/
def Obligations.CbyteFoldsByte : Prop :=
  ∀ b : Byte, decode (0x12000000#32 ||| b.setWidth 32) = .command (.cbyte b) ∧
  ∀ s : State, (s.tv = true → s.table = builtTable) →
    exec (.cbyte b) s =
      .next { s with table := builtTable, tv := true, crcacc := crcStep crcEntry s.crcacc b,
                     responses := s.responses ++ [⟨0x00#8, 0#32⟩] }

/-- `CFIN` (R87). -/
def Obligations.CfinGivesChecksum : Prop :=
  decode 0x13000000#32 = .command .cfin ∧
  ∀ s : State, exec .cfin s =
    .next { s with crcr := s.crcacc ^^^ 0xFFFFFFFF#32,
                   responses := s.responses ++ [⟨0x00#8, s.crcacc ^^^ 0xFFFFFFFF#32⟩] }

/-- `CSUM`: the bytes pushed, without padding (R88); the hypotheses are clauses of the invariant. -/
def Obligations.CsumChecksumsPayload : Prop :=
  decode 0x14000000#32 = .command .csum ∧
  ∀ s : State, s.plen.toNat ≤ 2048 → (s.tv = true → s.table = builtTable) →
    ∃ c, c = crc32 crcEntry ((List.range s.plen.toNat).map s.payloadByte) ∧
      exec .csum s =
        .next { s with table := builtTable, tv := true, crcr := c, responses := s.responses ++ [⟨0x00#8, c⟩] }

/-- `TRD i` (R89). -/
def Obligations.TrdReadsTableEntry : Prop :=
  ∀ i : Byte, decode (0x15000000#32 ||| i.setWidth 32) = .command (.trd i) ∧
  ∀ s : State, (s.tv = true → s.table = builtTable) →
    exec (.trd i) s =
      .next { s with table := builtTable, tv := true, responses := s.responses ++ [⟨0x00#8, crcEntry i.toNat⟩] }

/-- The streaming commands compute `CRC32` of any byte sequence: after `CINIT`, a `CBYTE` for each byte and `CFIN`,
`CRCR` and the response are `CRC32(B)` (40_crc.md section 2, the consequence the spec marks as derived). -/
def Obligations.StreamedChecksumIsCrc32 : Prop :=
  ∀ (bytes : List Byte) (s : State) (rest : List Word), s.Inv → s.point = none →
    s.cmds = 0x11000000#32 :: (bytes.map (fun b => 0x12000000#32 ||| b.setWidth 32) ++ 0x13000000#32 :: rest) →
    ∃ t, runSteps (bytes.length + 2) s = .next t ∧ t.cmds = rest ∧ t.crcr = crc32 crcEntry bytes ∧
      t.responses =
        s.responses ++ (List.replicate (bytes.length + 1) ⟨0x00#8, 0#32⟩ ++ [⟨0x00#8, crc32 crcEntry bytes⟩])

/-! ### The Frame Encoder -/

/-- The frame's bytes (41_frame.md R104, 30_encoding.md R61, R62). -/
def Obligations.EncodeLaysOutFrame : Prop :=
  ∀ (seq : Half) (p : List Byte), p.length ≤ 2048 →
    ∃ f, f = encodeFrame crcEntry seq p ∧ f.length = 2056 ∧
      f[0]? = some 0x55#8 ∧ f[1]? = some 0xAA#8 ∧
      f[2]? = some (seq.extractLsb' 8 8) ∧ f[3]? = some (seq.extractLsb' 0 8) ∧
      (∀ i, i < p.length → f[4 + i]? = p[i]?) ∧
      (∀ i, p.length ≤ i → i < 2048 → f[4 + i]? = some 0xFF#8) ∧
      ∃ c, c = crc32 crcEntry ((f.drop 4).take 2048) ∧
        f[2052]? = some (c.extractLsb' 0 8) ∧ f[2053]? = some (c.extractLsb' 8 8) ∧
        f[2054]? = some (c.extractLsb' 16 8) ∧ f[2055]? = some (c.extractLsb' 24 8)

/-- Payloads that differ only in trailing 0xFF bytes encode to the same frame (41_frame.md section 1, derived there). -/
def Obligations.TrailingPadBytesAreInvisible : Prop :=
  ∀ (seq : Half) (p : List Byte) (k : Nat), p.length + k ≤ 2048 →
    encodeFrame crcEntry seq (p ++ List.replicate k 0xFF#8) = encodeFrame crcEntry seq p

/-- `PRST` (R101). -/
def Obligations.PrstEmptiesPayload : Prop :=
  decode 0x20000000#32 = .command .prst ∧
  ∀ s : State, exec .prst s = .next { s with plen := 0#12, responses := s.responses ++ [⟨0x00#8, 0#32⟩] }

/-- `PPUSH b` with room in the buffer: one byte at index `PLEN`, every other byte as before (R102). With `PLEN` = 2048 the
byte is dropped (R175). For `PLEN` above 2048, in no state a run reaches, the same answer follows the by-value check
`PLEN` < 2048 of 30_encoding.md R66; that is the model's choice, log entry 10. -/
def Obligations.PpushAppendsOneByte : Prop :=
  ∀ b : Byte, decode (0x21000000#32 ||| b.setWidth 32) = .command (.ppush b) ∧
  ∀ s : State,
    (s.plen.toNat < 2048 → ∃ t, exec (.ppush b) s = .next t ∧
      t = { s with pb := t.pb, plen := t.plen, responses := s.responses ++ [⟨0x00#8, 0#32⟩] } ∧
      t.plen.toNat = s.plen.toNat + 1 ∧ t.payloadByte s.plen.toNat = b ∧
      ∀ a, a ≠ s.plen.toNat → t.payloadByte a = s.payloadByte a) ∧
    (2048 ≤ s.plen.toNat →
      exec (.ppush b) s = .next { s with responses := s.responses ++ [⟨0x12#8, 0#32⟩] })

/-- `SEQINC` (R103). -/
def Obligations.SeqincAdvancesSequence : Prop :=
  decode 0x22000000#32 = .command .seqinc ∧
  ∀ s : State, ∃ t, exec .seqinc s = .next t ∧
    t = { s with seq := t.seq, responses := s.responses ++ [⟨0x00#8, 0#32⟩] } ∧
    t.seq.toNat = (s.seq.toNat + 1) % 65536

/-- `ENC` (R105): all 2056 bytes of `FB`, and nothing else but the table. -/
def Obligations.EncBuildsFrame : Prop :=
  decode 0x23000000#32 = .command .enc ∧
  ∀ s : State, s.plen.toNat ≤ 2048 → (s.tv = true → s.table = builtTable) →
    ∃ t, exec .enc s = .next t ∧
      t = { s with table := builtTable, tv := true, fb := t.fb,
                   responses := s.responses ++ [⟨0x00#8, 0#32⟩] } ∧
      ∀ a, a < 2056 → (encodeFrame crcEntry s.seq ((List.range s.plen.toNat).map s.payloadByte))[a]? =
        some (t.frameByte a)

/-- `FRD a` (R106, 60_exceptions.md R174). -/
def Obligations.FrdReadsFrameByte : Prop :=
  ∀ a : Half, decode (0x24000000#32 ||| a.setWidth 32) = .command (.frd a) ∧
  ∀ s : State,
    (a.toNat ≤ 2055 → exec (.frd a) s =
      .next { s with responses := s.responses ++ [⟨0x00#8, (s.frameByte a.toNat).setWidth 32⟩] }) ∧
    (2055 < a.toNat → exec (.frd a) s = .next { s with responses := s.responses ++ [⟨0x11#8, 0#32⟩] })

/-- `PRST`, a `PPUSH` for each byte and `ENC` leave in `FB` the frame of exactly those bytes (30_encoding.md section
5, the correspondence with the document's `encode`). -/
def Obligations.LoadedPayloadIsFramed : Prop :=
  ∀ (bytes : List Byte) (s : State) (rest : List Word), s.Inv → s.point = none → bytes.length ≤ 2048 →
    s.cmds = 0x20000000#32 :: (bytes.map (fun b => 0x21000000#32 ||| b.setWidth 32) ++ 0x23000000#32 :: rest) →
    ∃ t, runSteps (bytes.length + 2) s = .next t ∧ t.cmds = rest ∧ t.payload = bytes ∧
      ∀ a, a < 2056 → (encodeFrame crcEntry s.seq bytes)[a]? = some (t.frameByte a)

/-- The frame depends on `SEQ` and the payload bytes below `PLEN` only, whatever else two states differ in (41_frame.md
section 1, derived there). -/
def Obligations.FrameDependsOnSeqAndPayloadOnly : Prop :=
  ∀ s s' : State, s.Inv → s'.Inv → s.seq = s'.seq → s.plen = s'.plen →
    (∀ a, a < s.plen.toNat → s.payloadByte a = s'.payloadByte a) →
    ∃ t t', exec .enc s = .next t ∧ exec .enc s' = .next t' ∧
      ∀ a, a < 2056 → t.frameByte a = t'.frameByte a

/-- A command that reads `PB[0..PLEN)` stops where `PLEN` is no length of the buffer: the model's own fault, in no
state a run reaches (log entry 10). -/
def Obligations.PayloadLengthStops : Prop :=
  ∀ s : State, 2048 < s.plen.toNat →
    exec .csum s = .fault .payloadLength ∧ exec .enc s = .fault .payloadLength ∧
    (s.point = some .writeFrame → step s = .fault .payloadLength)

/-! ### The Handshake Controller -/

/-- `SIGW a`: one `SigWrite`, its result, and the line's level after it (42_handshake.md R121). -/
def Obligations.SigwWritesLine : Prop :=
  decode 0x30000000#32 = .command (.sigw false) ∧ decode 0x30000001#32 = .command (.sigw true) ∧
  ∀ (s : State) (asserted : Bool),
    ∃ level, level = (if asserted then Level.low else Level.high) ∧
    (s.sigAnswer s.line level = .ok → exec (.sigw asserted) s =
      .next { s with trace := s.trace ++ [.sigWrite s.line level .ok], sigIn := s.sigIn.tail,
                     err := 0x00#8, responses := s.responses ++ [⟨0x00#8, 0#32⟩] }) ∧
    (s.sigAnswer s.line level = .fail → exec (.sigw asserted) s =
      .next { s with trace := s.trace ++ [.sigWrite s.line level .fail], sigIn := s.sigIn.tail,
                     err := 0x01#8, responses := s.responses ++ [⟨0x01#8, 0#32⟩] }) ∧
    ∀ t, exec (.sigw asserted) s = .next t →
      t.lineLevel t.line = if s.sigAnswer s.line level = .fail then .unknown else if asserted then .low else .high

/-- `SEND` starts a packet: `POLLCNT` zero, `STATE` Selecting, no request made yet (42_handshake.md section 3; one
request a step is the model's reading, log entry 1). -/
def Obligations.SendStartsPacket : Prop :=
  decode 0x31000000#32 = .command .send ∧
  ∀ s : State, exec .send s =
    .next { s with pollcnt := 0#16, state := .selecting, point := some .assertLine }

/-- Step 1: on `fail` the command ends at once and the line's level is unknown (R125). -/
def Obligations.SendAssertsLine : Prop :=
  ∀ s : State, s.point = some .assertLine →
    (s.sigAnswer s.line .low = .ok → step s =
      .next { s with trace := s.trace ++ [.sigWrite s.line .low .ok], sigIn := s.sigIn.tail,
                     point := some .settle }) ∧
    (s.sigAnswer s.line .low = .fail → step s =
      .next { s with trace := s.trace ++ [.sigWrite s.line .low .fail], sigIn := s.sigIn.tail,
                     state := .faulted, err := 0x01#8, point := none,
                     responses := s.responses ++ [⟨0x01#8, 0#32⟩] }) ∧
    ∀ t, step s = .next t → t.lineLevel t.line = if s.sigAnswer s.line .low = .fail then .unknown else .low

/-- The settle delay, also of zero ticks (R126), and the move to Transmitting that follows it (R124). That both are one
step is the model's choice, log entries 1 and 15. -/
def Obligations.SendWaitsSettleDelay : Prop :=
  ∀ s : State, s.point = some .settle → step s =
    .next { s with trace := s.trace ++ [.delay s.settle], state := .transmitting, point := some .writeFrame }

/-- Step 2 (R127): the frame of the current `SEQ` and payload goes into `FB` and is offered in one write; 2056 or more
bytes accepted continue, fewer or an error end with `ShortWrite`. -/
def Obligations.SendWritesFrame : Prop :=
  ∀ s : State, s.point = some .writeFrame → s.plen.toNat ≤ 2048 → (s.tv = true → s.table = builtTable) →
    ∃ f, f = encodeFrame crcEntry s.seq ((List.range s.plen.toNat).map s.payloadByte) ∧
    (∀ n, s.writeAnswer f = .count n → 2056 ≤ n → step s =
      .next { s with table := builtTable, tv := true, fb := Cells.ofList f,
                     trace := s.trace ++ [.chanWrite f (.count n)], writeIn := s.writeIn.tail,
                     point := some .deassertLine }) ∧
    (∀ w, s.writeAnswer f = w → (w = .error ∨ ∃ n, w = .count n ∧ n < 2056) → step s =
      .next { s with table := builtTable, tv := true, fb := Cells.ofList f,
                     trace := s.trace ++ [.chanWrite f w], writeIn := s.writeIn.tail,
                     state := .faulted, err := 0x02#8, point := none,
                     responses := s.responses ++ [⟨0x02#8, 0#32⟩] })

/-- Step 3 (R128). -/
def Obligations.SendDeassertsLine : Prop :=
  ∀ s : State, s.point = some .deassertLine →
    (s.sigAnswer s.line .high = .ok → step s =
      .next { s with trace := s.trace ++ [.sigWrite s.line .high .ok], sigIn := s.sigIn.tail,
                     state := .awaitingAck, point := some .pollWrite }) ∧
    (s.sigAnswer s.line .high = .fail → step s =
      .next { s with trace := s.trace ++ [.sigWrite s.line .high .fail], sigIn := s.sigIn.tail,
                     state := .faulted, err := 0x01#8, point := none,
                     responses := s.responses ++ [⟨0x01#8, 0#32⟩] })

/-- Step 4, before an exchange: the bound is checked first and then makes no request (R131); else the dummy byte is
written, and a count other than 1 or an error ends with `AckIo` and no read (R129). -/
def Obligations.SendChecksBoundThenWritesDummy : Prop :=
  ∀ s : State, s.point = some .pollWrite →
    (s.pollmax ≠ 0#16 → s.pollcnt = s.pollmax → step s =
      .next { s with state := .faulted, err := 0x05#8, point := none,
                     responses := s.responses ++ [⟨0x05#8, 0#32⟩] }) ∧
    (s.pollmax = 0#16 ∨ s.pollcnt ≠ s.pollmax →
      (s.writeAnswer [0x00#8] = .count 1 → step s =
        .next { s with trace := s.trace ++ [.chanWrite [0x00#8] (.count 1)], writeIn := s.writeIn.tail,
                       point := some .pollRead }) ∧
      (∀ w, s.writeAnswer [0x00#8] = w → w ≠ .count 1 → step s =
        .next { s with trace := s.trace ++ [.chanWrite [0x00#8] w], writeIn := s.writeIn.tail,
                       state := .faulted, err := 0x03#8, point := none,
                       responses := s.responses ++ [⟨0x03#8, 0#32⟩] }))

/-- Step 4, the read: a failed one ends with `AckIo` and leaves `POLLCNT` and `ACKB`; a byte is counted (saturating),
kept and decoded by its full value (R129, R130; 30_encoding.md R63, R69). -/
def Obligations.SendReadsAndDecodesAck : Prop :=
  ∀ s : State, s.point = some .pollRead →
    (s.readAnswer = .error → step s =
      .next { s with trace := s.trace ++ [.chanRead .error], readIn := s.readIn.tail,
                     state := .faulted, err := 0x03#8, point := none,
                     responses := s.responses ++ [⟨0x03#8, 0#32⟩] }) ∧
    ∀ b, s.readAnswer = .byte b →
      ∃ t, step s = .next t ∧ t.ackb = b ∧ t.pollcnt.toNat = min (s.pollcnt.toNat + 1) 0xFFFF ∧
        t.trace = s.trace ++ [.chanRead (.byte b)] ∧ t.readIn = s.readIn.tail ∧
        t = { s with ackb := t.ackb, pollcnt := t.pollcnt, trace := t.trace, readIn := t.readIn, state := t.state,
                     err := t.err, point := t.point, responses := t.responses } ∧
        (b = 0x00#8 ∨ b = 0xFF#8 →
          t.point = some .pollWrite ∧ t.state = s.state ∧ t.err = s.err ∧ t.responses = s.responses) ∧
        (b = 0x06#8 → t.point = none ∧ t.state = .acked ∧ t.err = 0x00#8 ∧
          t.responses = s.responses ++ [⟨0x00#8, 0#32⟩]) ∧
        (b = 0x15#8 → t.point = none ∧ t.state = .nacked ∧ t.err = 0x04#8 ∧
          t.responses = s.responses ++ [⟨0x04#8, 0#32⟩]) ∧
        (b ∉ [0x00#8, 0xFF#8, 0x06#8, 0x15#8] → t.point = none ∧ t.state = .faulted ∧ t.err = 0x06#8 ∧
          t.responses = s.responses ++ [⟨0x06#8, 0#32⟩])

/-- A whole `SEND` whose line and frame writes succeed ends at the first byte that is not pending, with the result of
that byte and the trace of 42_handshake.md R124 (95_test_vectors.md V4 is the case 0x00, 0x00, 0x15). The known answers
are the environment's lists, log entry 2. -/
def Obligations.SendResolvesAtFirstAnswer : Prop :=
  ∀ (s : State) (rest : List Word) (n : Nat) (pending : List Byte) (b : Byte)
    (sigs : List SigAnswer) (writes : List WriteAnswer) (reads : List ReadAnswer),
    s.Inv → s.point = none → s.cmds = 0x31000000#32 :: rest → 2056 ≤ n →
    (∀ p ∈ pending, p = 0x00#8 ∨ p = 0xFF#8) → b ≠ 0x00#8 → b ≠ 0xFF#8 →
    (s.pollmax = 0#16 ∨ pending.length < s.pollmax.toNat) →
    s.sigIn = .ok :: .ok :: sigs →
    s.writeIn = .count n :: (List.replicate (pending.length + 1) (.count 1) ++ writes) →
    s.readIn = pending.map .byte ++ .byte b :: reads →
    ∃ t f, f = encodeFrame crcEntry s.seq s.payload ∧
      runSteps (5 + 2 * (pending.length + 1)) s = .next t ∧ t.point = none ∧ t.cmds = rest ∧
      t.ackb = b ∧ t.pollcnt.toNat = min (pending.length + 1) 0xFFFF ∧
      (b = 0x06#8 → t.state = .acked ∧ t.err = 0x00#8 ∧ t.responses = s.responses ++ [⟨0x00#8, 0#32⟩]) ∧
      (b = 0x15#8 → t.state = .nacked ∧ t.err = 0x04#8 ∧ t.responses = s.responses ++ [⟨0x04#8, 0#32⟩]) ∧
      (b ≠ 0x06#8 → b ≠ 0x15#8 →
        t.state = .faulted ∧ t.err = 0x06#8 ∧ t.responses = s.responses ++ [⟨0x06#8, 0#32⟩]) ∧
      t.trace = s.trace ++
        (([.sigWrite s.line .low .ok, .delay s.settle, .chanWrite f (.count n), .sigWrite s.line .high .ok] :
            List Event) ++ (pending.flatMap exchangeEvents ++ exchangeEvents b)) ∧
      t.fb = Cells.ofList f

/-- A whole `SEND` with a bound of `N` exchanges, all of them pending, ends with `AckTimeout` after exactly `N`
exchanges and no further request (42_handshake.md R131, 60_exceptions.md R181). -/
def Obligations.SendTimesOutAtBound : Prop :=
  ∀ (s : State) (rest : List Word) (n : Nat) (pending : List Byte)
    (sigs : List SigAnswer) (writes : List WriteAnswer) (reads : List ReadAnswer),
    s.Inv → s.point = none → s.cmds = 0x31000000#32 :: rest → 2056 ≤ n →
    (∀ p ∈ pending, p = 0x00#8 ∨ p = 0xFF#8) →
    s.pollmax ≠ 0#16 → pending.length = s.pollmax.toNat →
    s.sigIn = .ok :: .ok :: sigs →
    s.writeIn = .count n :: (List.replicate pending.length (.count 1) ++ writes) →
    s.readIn = pending.map .byte ++ reads →
    ∃ t, runSteps (6 + 2 * pending.length) s = .next t ∧ t.point = none ∧ t.cmds = rest ∧
      t.state = .faulted ∧ t.err = 0x05#8 ∧ t.responses = s.responses ++ [⟨0x05#8, 0#32⟩] ∧
      t.pollcnt = s.pollmax ∧ pending.getLast? = some t.ackb ∧ t.writeIn = writes ∧ t.readIn = reads ∧
      t.trace.length = s.trace.length + 2 * s.pollmax.toNat + 4

/-- With a bound `N` > 0 every `SEND` ends, whatever the environment answers, after at most 2N + 4 requests
(70_reset_and_hazards.md section 3); 2N + 6 steps, since taking the word and finding the bound make no request. -/
def Obligations.BoundedSendEnds : Prop :=
  ∀ (s : State) (rest : List Word), s.Inv → s.point = none → s.cmds = 0x31000000#32 :: rest → s.pollmax ≠ 0#16 →
    ∃ k t, k ≤ 2 * s.pollmax.toNat + 6 ∧ runSteps k s = .next t ∧ t.point = none ∧ t.cmds = rest ∧
      t.responses = s.responses ++ [⟨t.err, 0#32⟩] ∧
      t.trace.length ≤ s.trace.length + 2 * s.pollmax.toNat + 4

/-- With `POLLMAX` = 0 no number of pending answers ends the poll: the `SEND` goes on, has answered nothing and taken
no word, and `POLLCNT` stays at 0xFFFF once there (70_reset_and_hazards.md section 3, 10_state.md section 2). -/
def Obligations.UnboundedPollGoesOn : Prop :=
  ∀ (s : State) (pending : List Byte) (writes : List WriteAnswer) (reads : List ReadAnswer),
    s.point = some .pollWrite → s.pollmax = 0#16 → (∀ p ∈ pending, p = 0x00#8 ∨ p = 0xFF#8) →
    s.writeIn = List.replicate pending.length (.count 1) ++ writes → s.readIn = pending.map .byte ++ reads →
    ∃ t, runSteps (2 * pending.length) s = .next t ∧ t.point = some .pollWrite ∧ t.state = s.state ∧
      t.err = s.err ∧ t.responses = s.responses ∧ t.cmds = s.cmds ∧
      t.pollcnt.toNat = min (s.pollcnt.toNat + pending.length) 0xFFFF

/-- The end of a `SEND`: `ERR` takes the result code and the host gets `(rc, 0)` with that code at the step that ends it,
and not before; `STATE` then goes with the code. While it goes on it writes no `ERR` and answers nothing, and while it
polls `STATE` is AwaitingAck (42_handshake.md R132). -/
def Obligations.SendEndsWithItsResult : Prop :=
  ∀ (s t : State) (p : SendPoint), s.Inv → s.point = some p → step s = .next t →
    (t.point ≠ none → t.err = s.err ∧ t.responses = s.responses) ∧
    (t.point = some .pollWrite ∨ t.point = some .pollRead → t.state = .awaitingAck) ∧
    (t.point = none → t.responses = s.responses ++ [⟨t.err, 0#32⟩] ∧
      ((t.state = .acked ∧ t.err = 0x00#8) ∨ (t.state = .nacked ∧ t.err = 0x04#8) ∨
       (t.state = .faulted ∧ t.err ∈ [0x01#8, 0x02#8, 0x03#8, 0x05#8, 0x06#8])))

/-- All the transitions of the packet state machine, each with the event that causes it and its result
(42_handshake.md R123). AwaitingAck is entered only where the event before the deassert was the frame's write in full. -/
def Obligations.PacketStateFollowsItsTransitions : Prop :=
  ∀ s t : State, s.Inv → step s = .next t → t.state ≠ s.state →
    s.current = some .send ∧
    ((s.state ∈ [.idle, .acked, .nacked, .faulted] ∧ t.state = .selecting ∧ t.trace = s.trace) ∨
     (s.state = .selecting ∧ t.state = .faulted ∧ t.err = 0x01#8 ∧
        t.trace = s.trace ++ [Event.sigWrite s.line .low .fail]) ∨
     (s.state = .selecting ∧ t.state = .transmitting ∧ s.lineLevel s.line = .low ∧
        t.trace = s.trace ++ [Event.delay s.settle]) ∨
     (s.state = .transmitting ∧ t.state = .faulted ∧ t.err = 0x02#8 ∧
        ∃ (f : List Byte) (w : WriteAnswer), f.length = 2056 ∧ (w = .error ∨ ∃ n : Nat, w = .count n ∧ n < 2056) ∧
          t.trace = s.trace ++ [Event.chanWrite f w]) ∨
     (s.state = .transmitting ∧ t.state = .faulted ∧ t.err = 0x01#8 ∧
        t.trace = s.trace ++ [Event.sigWrite s.line .high .fail]) ∨
     (s.state = .transmitting ∧ t.state = .awaitingAck ∧
        (∃ (f : List Byte) (n : Nat), f.length = 2056 ∧ 2056 ≤ n ∧
          s.trace.getLast? = some (Event.chanWrite f (.count n))) ∧
        t.trace = s.trace ++ [Event.sigWrite s.line .high .ok]) ∨
     (s.state = .awaitingAck ∧ t.state = .faulted ∧ t.err = 0x05#8 ∧
        s.pollmax ≠ 0#16 ∧ s.pollcnt = s.pollmax ∧ t.trace = s.trace) ∨
     (s.state = .awaitingAck ∧ t.state = .faulted ∧ t.err = 0x03#8 ∧
        ((∃ w : WriteAnswer, w ≠ .count 1 ∧ t.trace = s.trace ++ [Event.chanWrite [0x00#8] w]) ∨
          t.trace = s.trace ++ [Event.chanRead .error])) ∨
     (s.state = .awaitingAck ∧ t.state = .acked ∧ t.err = 0x00#8 ∧ t.trace = s.trace ++ [Event.chanRead (.byte 0x06#8)]) ∨
     (s.state = .awaitingAck ∧ t.state = .nacked ∧ t.err = 0x04#8 ∧ t.trace = s.trace ++ [Event.chanRead (.byte 0x15#8)]) ∨
     (s.state = .awaitingAck ∧ t.state = .faulted ∧ t.err = 0x06#8 ∧
        ∃ b : Byte, b ∉ [0x00#8, 0xFF#8, 0x06#8, 0x15#8] ∧ t.trace = s.trace ++ [Event.chanRead (.byte b)]))

/-- What every step of a `SEND` leaves alone: the registers and the payload it reads, `CRCACC` and `CRCR`
(42_handshake.md R133). -/
def Obligations.SendLeavesInputsAlone : Prop :=
  ∀ s t : State, s.current = some .send → step s = .next t →
    t.seq = s.seq ∧ t.plen = s.plen ∧ t.line = s.line ∧ t.settle = s.settle ∧ t.pollmax = s.pollmax ∧
    t.crcacc = s.crcacc ∧ t.crcr = s.crcr ∧ (∀ a, t.payloadByte a = s.payloadByte a) ∧
    (s.point ≠ some .writeFrame → (∀ a, t.frameByte a = s.frameByte a) ∧ (∀ i, t.tableEntry i = s.tableEntry i) ∧
      t.tv = s.tv) ∧
    (s.point ≠ some .pollRead → t.ackb = s.ackb) ∧ (t.point ≠ none → t.err = s.err)

/-- The line when a `SEND` ends, by the step it ended in (42_handshake.md section 3, derived there). -/
def Obligations.LineLevelAfterSend : Prop :=
  ∀ (s t : State) (p : SendPoint), s.Inv → s.point = some p → step s = .next t → t.point = none →
    (p = .assertLine ∨ p = .deassertLine → t.err = 0x01#8 ∧ t.lineLevel t.line = .unknown) ∧
    p ≠ .settle ∧ (p = .writeFrame → t.err = 0x02#8 ∧ t.lineLevel t.line = .low) ∧
    (p = .pollWrite ∨ p = .pollRead → t.lineLevel t.line = .high)

/-! ### Register access -/

/-- `RREG r` (43_access.md R160, 10_state.md R14): each register zero-extended, nothing changed; `BadRegister` for an
index that names none (60_exceptions.md R176). -/
def Obligations.RregReadsRegister : Prop :=
  (∀ r : Byte, decode (0x40000000#32 ||| (r.setWidth 32 <<< 16)) = .command (.rreg r)) ∧
  (PacketState.code .idle = 0#3 ∧ PacketState.code .selecting = 1#3 ∧ PacketState.code .transmitting = 2#3 ∧
    PacketState.code .awaitingAck = 3#3 ∧ PacketState.code .acked = 4#3 ∧ PacketState.code .nacked = 5#3 ∧
    PacketState.code .faulted = 6#3) ∧
  ∀ s : State,
    (∀ (r : Byte) (d : Word),
      (r, d) ∈ [(0x00#8, s.state.code.setWidth 32 ||| (if s.tv then 8#32 else 0#32)), (0x01#8, s.err.setWidth 32),
        (0x02#8, s.seq.setWidth 32), (0x03#8, s.plen.setWidth 32), (0x04#8, s.crcacc), (0x05#8, s.crcr),
        (0x06#8, s.ackb.setWidth 32), (0x07#8, s.pollcnt.setWidth 32), (0x08#8, s.pollmax.setWidth 32),
        (0x09#8, s.settle.setWidth 32), (0x0A#8, s.line.setWidth 32)] →
      exec (.rreg r) s = .next { s with responses := s.responses ++ [⟨0x00#8, d⟩] }) ∧
    ∀ r : Byte, 0x0A < r.toNat → exec (.rreg r) s = .next { s with responses := s.responses ++ [⟨0x13#8, 0#32⟩] }

/-- `WREG r, v` (43_access.md R161): the four writable registers, every value; `BadRegister` for any other index
(60_exceptions.md R176). -/
def Obligations.WregWritesRegister : Prop :=
  (∀ (r : Byte) (v : Half),
    decode (0x41000000#32 ||| (r.setWidth 32 <<< 16) ||| v.setWidth 32) = .command (.wreg r v)) ∧
  ∀ (s : State) (v : Half),
    exec (.wreg 0x02#8 v) s = .next { s with seq := v, responses := s.responses ++ [⟨0x00#8, 0#32⟩] } ∧
    exec (.wreg 0x08#8 v) s = .next { s with pollmax := v, responses := s.responses ++ [⟨0x00#8, 0#32⟩] } ∧
    exec (.wreg 0x09#8 v) s = .next { s with settle := v, responses := s.responses ++ [⟨0x00#8, 0#32⟩] } ∧
    exec (.wreg 0x0A#8 v) s = .next { s with line := v, responses := s.responses ++ [⟨0x00#8, 0#32⟩] } ∧
    ∀ r : Byte, r ∉ [0x02#8, 0x08#8, 0x09#8, 0x0A#8] →
      exec (.wreg r v) s = .next { s with responses := s.responses ++ [⟨0x13#8, 0#32⟩] }

/-! ### The whole machine -/

/-- The invariant holds at reset. -/
def Obligations.InvariantHoldsAtReset : Prop := State.reset.Inv

/-- Every step keeps the invariant: `PLEN`, `ERR` and the buffers in range, `TV` truthful, the payload written, `FB`
its reset content or one whole frame, `STATE` in agreement with the step of a running `SEND`, the poll count within its
bound, the frame sent that of the current `SEQ` and payload and written in full, and the line's level as the step requires. -/
def Obligations.InvariantKeptByStep : Prop :=
  ∀ s t : State, s.Inv → step s = .next t → t.Inv

/-- From every state with the invariant a step answers a next state: no command stops the block (60_exceptions.md
section 4). -/
def Obligations.StepNeverStops : Prop := ∀ s : State, s.Inv → ∃ t, step s = .next t

/-- Which command writes which register, complete (43_access.md section 2, the table the spec marks as derived). -/
def Obligations.RegistersWrittenOnlyByTheirCommands : Prop :=
  ∀ s t : State, step s = .next t →
    (t.state ≠ s.state → s.current = some .send) ∧
    (t.tv ≠ s.tv → s.current = some .tbld ∨ (∃ b, s.current = some (.cbyte b)) ∨ s.current = some .csum ∨
      (∃ i, s.current = some (.trd i)) ∨ s.current = some .enc ∨ s.current = some .send) ∧
    (t.err ≠ s.err → (∃ a, s.current = some (.sigw a)) ∨ s.current = some .send) ∧
    (t.seq ≠ s.seq → s.current = some .seqinc ∨ ∃ v, s.current = some (.wreg 0x02#8 v)) ∧
    (t.plen ≠ s.plen → s.current = some .prst ∨ ∃ b, s.current = some (.ppush b)) ∧
    (t.crcacc ≠ s.crcacc → s.current = some .cinit ∨ ∃ b, s.current = some (.cbyte b)) ∧
    (t.crcr ≠ s.crcr → s.current = some .cfin ∨ s.current = some .csum) ∧
    (t.ackb ≠ s.ackb → s.current = some .send) ∧
    (t.pollcnt ≠ s.pollcnt → s.current = some .send) ∧
    (t.pollmax ≠ s.pollmax → ∃ v, s.current = some (.wreg 0x08#8 v)) ∧
    (t.settle ≠ s.settle → ∃ v, s.current = some (.wreg 0x09#8 v)) ∧
    (t.line ≠ s.line → ∃ v, s.current = some (.wreg 0x0A#8 v))

/-- Which command writes which buffer (10_state.md section 3): `PB` only `PPUSH`, `FB` only `ENC` and `SEND`, `T` only
`TBLD` and, while `TV` = 0, the five commands that build the table first. -/
def Obligations.BuffersWrittenOnlyByTheirCommands : Prop :=
  ∀ s t : State, step s = .next t →
    ((∀ b, s.current ≠ some (.ppush b)) → ∀ a, t.payloadByte a = s.payloadByte a) ∧
    (∀ b, s.current = some (.ppush b) → ∀ a, a ≠ s.plen.toNat → t.payloadByte a = s.payloadByte a) ∧
    (s.current ≠ some .enc → s.current ≠ some .send → ∀ a, t.frameByte a = s.frameByte a) ∧
    ((∃ i, t.tableEntry i ≠ s.tableEntry i) →
      s.current = some .tbld ∨
        s.tv = false ∧ ((∃ b, s.current = some (.cbyte b)) ∨ s.current = some .csum ∨
          (∃ i, s.current = some (.trd i)) ∨ s.current = some .enc ∨ s.current = some .send))

/-- Only `SIGW` and `SEND` append to the trace, one event a step at most, and nothing ever leaves it (20_memory.md
section 7, derived there). -/
def Obligations.TraceGrowsOnlyBySigwAndSend : Prop :=
  ∀ s t : State, step s = .next t →
    t.trace = s.trace ∨
    ((∃ e, t.trace = s.trace ++ [e]) ∧ ((∃ a, s.current = some (.sigw a)) ∨ s.current = some .send))

/-- A command fault changes nothing but to answer `(rc, 0)` (60_exceptions.md R172): the word is used up; no register,
no buffer, no event, not `ERR`. -/
def Obligations.CommandFaultChangesNothing : Prop :=
  ∀ (s t : State) (w : Word) (rest : List Word) (r : Response), s.point = none → s.cmds = w :: rest →
    step s = .next t → t.responses = s.responses ++ [r] → 0x10 ≤ r.rc.toNat →
      r.data = 0#32 ∧ t = { s with cmds := rest, responses := s.responses ++ [r] }

/-- One response a command, when it ends and not before: a step that leaves the block at rest, having run something,
appends one response, whose code is one of R170's and whose data is 0 unless the code is 0x00; a step into or inside a
`SEND` appends none (20_memory.md section 4, 30_encoding.md section 4, 60_exceptions.md section 1). -/
def Obligations.OneResponsePerCommand : Prop :=
  ∀ s t : State, step s = .next t →
    (t.point ≠ none → t.responses = s.responses) ∧
    (t.point = none → s.point ≠ none ∨ s.cmds ≠ [] →
      ∃ r : Response, t.responses = s.responses ++ [r] ∧
        r.rc ∈ [0x00#8, 0x01#8, 0x02#8, 0x03#8, 0x04#8, 0x05#8, 0x06#8, 0x10#8, 0x11#8, 0x12#8, 0x13#8] ∧
        (r.rc ≠ 0x00#8 → r.data = 0#32))

/-- A command whose operands pass the by-value checks of its word is never answered `OperandRange` or `BadRegister`, and
the answer of one that fails them is one of the two (30_encoding.md section 4). -/
def Obligations.ByValueChecksDecideTheFault : Prop :=
  ∀ (i : Instr) (s t : State) (r : Response), exec i s = .next t → t.responses = s.responses ++ [r] →
    (i.wellFormed = false ↔ r.rc = 0x11#8 ∨ r.rc = 0x13#8)

/-- Between commands `RREG STATUS` shows `STATE` Idle, Acked, Nacked or Faulted and nothing else (10_state.md section
2). -/
def Obligations.StatusShowsRestStatesOnly : Prop :=
  ∀ s : State, s.Inv → s.point = none → ∃ d : Word,
    exec (.rreg 0x00#8) s = .next { s with responses := s.responses ++ [⟨0x00#8, d⟩] } ∧
    d.extractLsb' 0 3 ∈ [0#3, 4#3, 5#3, 6#3] ∧ d.extractLsb' 4 28 = 0#28 ∧ d.getLsbD 3 = s.tv
end

