-- ==== Sys2Proof/Laws/Cells.lean ====
section
/-! SUPPORT. The sparse buffers: reading after writing, and the canonical form that every write keeps. -/

namespace Sys2Proof.Machine

variable {α : Type}

/-- Reading an index just written gives what was written. -/
@[simp] theorem Cells.find_write_self (a : Nat) (v : α) (m : List (Nat × α)) :
    Cells.find a (Cells.write a v m) = some v := by
  induction m with
  | nil => simp [Cells.write, Cells.find]
  | cons c rest ih =>
    obtain ⟨b, w⟩ := c
    by_cases h₁ : a < b
    · simp [Cells.write, Cells.find, h₁]
    · by_cases h₂ : a = b
      · simp [Cells.write, Cells.find, h₂]
      · simp [Cells.write, Cells.find, h₁, h₂, ih]

/-- A write leaves every other index alone. -/
theorem Cells.find_write_other {a a' : Nat} (h : a' ≠ a) (v : α) (m : List (Nat × α)) :
    Cells.find a' (Cells.write a v m) = Cells.find a' m := by
  induction m with
  | nil => simp [Cells.write, Cells.find, h]
  | cons c rest ih =>
    obtain ⟨b, w⟩ := c
    by_cases h₁ : a < b
    · simp [Cells.write, Cells.find, h₁, h]
    · by_cases h₂ : a = b
      · subst h₂; simp [Cells.write, Cells.find, h]
      · simp [Cells.write, Cells.find, h₁, h₂, ih]

/-- Reading a buffer laid out from a sequence. -/
theorem Cells.find_ofListFrom (vs : List α) (k a : Nat) :
    Cells.find (k + a) (Cells.ofListFrom k vs) = vs[a]? := by
  induction vs generalizing k a with
  | nil => simp [Cells.ofListFrom, Cells.find]
  | cons v rest ih =>
    cases a with
    | zero => simp [Cells.ofListFrom, Cells.find]
    | succ a =>
      have := ih (k + 1) a
      rw [show k + 1 + a = k + (a + 1) by omega] at this
      simp [Cells.ofListFrom, Cells.find, this]

/-- A buffer written whole reads back as the sequence it was written with. -/
@[simp] theorem Cells.find_ofList (vs : List α) (a : Nat) : Cells.find a (Cells.ofList vs) = vs[a]? := by
  simpa [Cells.ofList] using Cells.find_ofListFrom vs 0 a

theorem Cells.wfFrom_write {size lo a : Nat} (v : α) (m : List (Nat × α)) (hlo : lo ≤ a) (ha : a < size)
    (h : Cells.wfFrom size lo m = true) : Cells.wfFrom size lo (Cells.write a v m) = true := by
  induction m generalizing lo with
  | nil => simp [Cells.write, Cells.wfFrom, hlo, ha]
  | cons c rest ih =>
    obtain ⟨b, w⟩ := c
    simp only [Cells.wfFrom, Bool.and_eq_true, decide_eq_true_eq] at h
    obtain ⟨⟨h₁, h₂⟩, h₃⟩ := h
    by_cases hlt : a < b
    · simp [Cells.write, Cells.wfFrom, hlt, hlo, ha, h₂, h₃]
    · by_cases heq : a = b
      · subst heq; simp [Cells.write, Cells.wfFrom, hlo, ha, h₃]
      · simp [Cells.write, Cells.wfFrom, hlt, heq, h₁, h₂, ih (by omega : b + 1 ≤ a) h₃]

/-- A write at an index of the buffer keeps the canonical form. -/
theorem Memory.wf_write {size a : Nat} (v : α) (m : List (Nat × α)) (ha : a < size)
    (h : Memory.wf size m = true) : Memory.wf size (Cells.write a v m) = true :=
  Cells.wfFrom_write v m (Nat.zero_le a) ha h

theorem Cells.wfFrom_ofListFrom (vs : List α) {size k : Nat} (h : k + vs.length ≤ size) :
    Cells.wfFrom size k (Cells.ofListFrom k vs) = true := by
  induction vs generalizing k with
  | nil => rfl
  | cons v rest ih =>
    simp only [List.length_cons] at h
    simp [Cells.ofListFrom, Cells.wfFrom, ih (k := k + 1) (by omega)]; omega

/-- A buffer written whole with a sequence that fits is in canonical form. -/
theorem Memory.wf_ofList (vs : List α) {size : Nat} (h : vs.length ≤ size) :
    Memory.wf size (Cells.ofList vs) = true :=
  Cells.wfFrom_ofListFrom vs (by omega)

end Sys2Proof.Machine
end

