-- ==== Sys2Proof/Laws/State.lean ====
section
/-! SUPPORT. One lemma per field and per named update of the state, so that no later proof unfolds a record update. -/

namespace Sys2Proof.Machine

/-! `STATE <- st`. -/

@[simp] theorem State.setState_state (s : State) (st : PacketState) : (s.setState st).state = st := rfl
@[simp] theorem State.setState_tv (s : State) (st : PacketState) : (s.setState st).tv = s.tv := rfl
@[simp] theorem State.setState_err (s : State) (st : PacketState) : (s.setState st).err = s.err := rfl
@[simp] theorem State.setState_seq (s : State) (st : PacketState) : (s.setState st).seq = s.seq := rfl
@[simp] theorem State.setState_plen (s : State) (st : PacketState) : (s.setState st).plen = s.plen := rfl
@[simp] theorem State.setState_crcacc (s : State) (st : PacketState) : (s.setState st).crcacc = s.crcacc := rfl
@[simp] theorem State.setState_crcr (s : State) (st : PacketState) : (s.setState st).crcr = s.crcr := rfl
@[simp] theorem State.setState_ackb (s : State) (st : PacketState) : (s.setState st).ackb = s.ackb := rfl
@[simp] theorem State.setState_pollcnt (s : State) (st : PacketState) : (s.setState st).pollcnt = s.pollcnt := rfl
@[simp] theorem State.setState_pollmax (s : State) (st : PacketState) : (s.setState st).pollmax = s.pollmax := rfl
@[simp] theorem State.setState_settle (s : State) (st : PacketState) : (s.setState st).settle = s.settle := rfl
@[simp] theorem State.setState_line (s : State) (st : PacketState) : (s.setState st).line = s.line := rfl
@[simp] theorem State.setState_table (s : State) (st : PacketState) : (s.setState st).table = s.table := rfl
@[simp] theorem State.setState_pb (s : State) (st : PacketState) : (s.setState st).pb = s.pb := rfl
@[simp] theorem State.setState_fb (s : State) (st : PacketState) : (s.setState st).fb = s.fb := rfl
@[simp] theorem State.setState_point (s : State) (st : PacketState) : (s.setState st).point = s.point := rfl
@[simp] theorem State.setState_trace (s : State) (st : PacketState) : (s.setState st).trace = s.trace := rfl
@[simp] theorem State.setState_responses (s : State) (st : PacketState) : (s.setState st).responses = s.responses := rfl
@[simp] theorem State.setState_cmds (s : State) (st : PacketState) : (s.setState st).cmds = s.cmds := rfl
@[simp] theorem State.setState_sigIn (s : State) (st : PacketState) : (s.setState st).sigIn = s.sigIn := rfl
@[simp] theorem State.setState_writeIn (s : State) (st : PacketState) : (s.setState st).writeIn = s.writeIn := rfl
@[simp] theorem State.setState_readIn (s : State) (st : PacketState) : (s.setState st).readIn = s.readIn := rfl

/-! `ERR <- e`. -/

@[simp] theorem State.setErr_state (s : State) (e : Byte) : (s.setErr e).state = s.state := rfl
@[simp] theorem State.setErr_tv (s : State) (e : Byte) : (s.setErr e).tv = s.tv := rfl
@[simp] theorem State.setErr_err (s : State) (e : Byte) : (s.setErr e).err = e := rfl
@[simp] theorem State.setErr_seq (s : State) (e : Byte) : (s.setErr e).seq = s.seq := rfl
@[simp] theorem State.setErr_plen (s : State) (e : Byte) : (s.setErr e).plen = s.plen := rfl
@[simp] theorem State.setErr_crcacc (s : State) (e : Byte) : (s.setErr e).crcacc = s.crcacc := rfl
@[simp] theorem State.setErr_crcr (s : State) (e : Byte) : (s.setErr e).crcr = s.crcr := rfl
@[simp] theorem State.setErr_ackb (s : State) (e : Byte) : (s.setErr e).ackb = s.ackb := rfl
@[simp] theorem State.setErr_pollcnt (s : State) (e : Byte) : (s.setErr e).pollcnt = s.pollcnt := rfl
@[simp] theorem State.setErr_pollmax (s : State) (e : Byte) : (s.setErr e).pollmax = s.pollmax := rfl
@[simp] theorem State.setErr_settle (s : State) (e : Byte) : (s.setErr e).settle = s.settle := rfl
@[simp] theorem State.setErr_line (s : State) (e : Byte) : (s.setErr e).line = s.line := rfl
@[simp] theorem State.setErr_table (s : State) (e : Byte) : (s.setErr e).table = s.table := rfl
@[simp] theorem State.setErr_pb (s : State) (e : Byte) : (s.setErr e).pb = s.pb := rfl
@[simp] theorem State.setErr_fb (s : State) (e : Byte) : (s.setErr e).fb = s.fb := rfl
@[simp] theorem State.setErr_point (s : State) (e : Byte) : (s.setErr e).point = s.point := rfl
@[simp] theorem State.setErr_trace (s : State) (e : Byte) : (s.setErr e).trace = s.trace := rfl
@[simp] theorem State.setErr_responses (s : State) (e : Byte) : (s.setErr e).responses = s.responses := rfl
@[simp] theorem State.setErr_cmds (s : State) (e : Byte) : (s.setErr e).cmds = s.cmds := rfl
@[simp] theorem State.setErr_sigIn (s : State) (e : Byte) : (s.setErr e).sigIn = s.sigIn := rfl
@[simp] theorem State.setErr_writeIn (s : State) (e : Byte) : (s.setErr e).writeIn = s.writeIn := rfl
@[simp] theorem State.setErr_readIn (s : State) (e : Byte) : (s.setErr e).readIn = s.readIn := rfl

/-! `CRCACC <- a`. -/

@[simp] theorem State.setCrcacc_state (s : State) (a : Word) : (s.setCrcacc a).state = s.state := rfl
@[simp] theorem State.setCrcacc_tv (s : State) (a : Word) : (s.setCrcacc a).tv = s.tv := rfl
@[simp] theorem State.setCrcacc_err (s : State) (a : Word) : (s.setCrcacc a).err = s.err := rfl
@[simp] theorem State.setCrcacc_seq (s : State) (a : Word) : (s.setCrcacc a).seq = s.seq := rfl
@[simp] theorem State.setCrcacc_plen (s : State) (a : Word) : (s.setCrcacc a).plen = s.plen := rfl
@[simp] theorem State.setCrcacc_crcacc (s : State) (a : Word) : (s.setCrcacc a).crcacc = a := rfl
@[simp] theorem State.setCrcacc_crcr (s : State) (a : Word) : (s.setCrcacc a).crcr = s.crcr := rfl
@[simp] theorem State.setCrcacc_ackb (s : State) (a : Word) : (s.setCrcacc a).ackb = s.ackb := rfl
@[simp] theorem State.setCrcacc_pollcnt (s : State) (a : Word) : (s.setCrcacc a).pollcnt = s.pollcnt := rfl
@[simp] theorem State.setCrcacc_pollmax (s : State) (a : Word) : (s.setCrcacc a).pollmax = s.pollmax := rfl
@[simp] theorem State.setCrcacc_settle (s : State) (a : Word) : (s.setCrcacc a).settle = s.settle := rfl
@[simp] theorem State.setCrcacc_line (s : State) (a : Word) : (s.setCrcacc a).line = s.line := rfl
@[simp] theorem State.setCrcacc_table (s : State) (a : Word) : (s.setCrcacc a).table = s.table := rfl
@[simp] theorem State.setCrcacc_pb (s : State) (a : Word) : (s.setCrcacc a).pb = s.pb := rfl
@[simp] theorem State.setCrcacc_fb (s : State) (a : Word) : (s.setCrcacc a).fb = s.fb := rfl
@[simp] theorem State.setCrcacc_point (s : State) (a : Word) : (s.setCrcacc a).point = s.point := rfl
@[simp] theorem State.setCrcacc_trace (s : State) (a : Word) : (s.setCrcacc a).trace = s.trace := rfl
@[simp] theorem State.setCrcacc_responses (s : State) (a : Word) : (s.setCrcacc a).responses = s.responses := rfl
@[simp] theorem State.setCrcacc_cmds (s : State) (a : Word) : (s.setCrcacc a).cmds = s.cmds := rfl
@[simp] theorem State.setCrcacc_sigIn (s : State) (a : Word) : (s.setCrcacc a).sigIn = s.sigIn := rfl
@[simp] theorem State.setCrcacc_writeIn (s : State) (a : Word) : (s.setCrcacc a).writeIn = s.writeIn := rfl
@[simp] theorem State.setCrcacc_readIn (s : State) (a : Word) : (s.setCrcacc a).readIn = s.readIn := rfl

/-! `CRCR <- c`. -/

@[simp] theorem State.setCrcr_state (s : State) (c : Word) : (s.setCrcr c).state = s.state := rfl
@[simp] theorem State.setCrcr_tv (s : State) (c : Word) : (s.setCrcr c).tv = s.tv := rfl
@[simp] theorem State.setCrcr_err (s : State) (c : Word) : (s.setCrcr c).err = s.err := rfl
@[simp] theorem State.setCrcr_seq (s : State) (c : Word) : (s.setCrcr c).seq = s.seq := rfl
@[simp] theorem State.setCrcr_plen (s : State) (c : Word) : (s.setCrcr c).plen = s.plen := rfl
@[simp] theorem State.setCrcr_crcacc (s : State) (c : Word) : (s.setCrcr c).crcacc = s.crcacc := rfl
@[simp] theorem State.setCrcr_crcr (s : State) (c : Word) : (s.setCrcr c).crcr = c := rfl
@[simp] theorem State.setCrcr_ackb (s : State) (c : Word) : (s.setCrcr c).ackb = s.ackb := rfl
@[simp] theorem State.setCrcr_pollcnt (s : State) (c : Word) : (s.setCrcr c).pollcnt = s.pollcnt := rfl
@[simp] theorem State.setCrcr_pollmax (s : State) (c : Word) : (s.setCrcr c).pollmax = s.pollmax := rfl
@[simp] theorem State.setCrcr_settle (s : State) (c : Word) : (s.setCrcr c).settle = s.settle := rfl
@[simp] theorem State.setCrcr_line (s : State) (c : Word) : (s.setCrcr c).line = s.line := rfl
@[simp] theorem State.setCrcr_table (s : State) (c : Word) : (s.setCrcr c).table = s.table := rfl
@[simp] theorem State.setCrcr_pb (s : State) (c : Word) : (s.setCrcr c).pb = s.pb := rfl
@[simp] theorem State.setCrcr_fb (s : State) (c : Word) : (s.setCrcr c).fb = s.fb := rfl
@[simp] theorem State.setCrcr_point (s : State) (c : Word) : (s.setCrcr c).point = s.point := rfl
@[simp] theorem State.setCrcr_trace (s : State) (c : Word) : (s.setCrcr c).trace = s.trace := rfl
@[simp] theorem State.setCrcr_responses (s : State) (c : Word) : (s.setCrcr c).responses = s.responses := rfl
@[simp] theorem State.setCrcr_cmds (s : State) (c : Word) : (s.setCrcr c).cmds = s.cmds := rfl
@[simp] theorem State.setCrcr_sigIn (s : State) (c : Word) : (s.setCrcr c).sigIn = s.sigIn := rfl
@[simp] theorem State.setCrcr_writeIn (s : State) (c : Word) : (s.setCrcr c).writeIn = s.writeIn := rfl
@[simp] theorem State.setCrcr_readIn (s : State) (c : Word) : (s.setCrcr c).readIn = s.readIn := rfl

/-! The next point of a running `SEND` (10_state.md R29). -/

@[simp] theorem State.goTo_state (s : State) (p : SendPoint) : (s.goTo p).state = s.state := rfl
@[simp] theorem State.goTo_tv (s : State) (p : SendPoint) : (s.goTo p).tv = s.tv := rfl
@[simp] theorem State.goTo_err (s : State) (p : SendPoint) : (s.goTo p).err = s.err := rfl
@[simp] theorem State.goTo_seq (s : State) (p : SendPoint) : (s.goTo p).seq = s.seq := rfl
@[simp] theorem State.goTo_plen (s : State) (p : SendPoint) : (s.goTo p).plen = s.plen := rfl
@[simp] theorem State.goTo_crcacc (s : State) (p : SendPoint) : (s.goTo p).crcacc = s.crcacc := rfl
@[simp] theorem State.goTo_crcr (s : State) (p : SendPoint) : (s.goTo p).crcr = s.crcr := rfl
@[simp] theorem State.goTo_ackb (s : State) (p : SendPoint) : (s.goTo p).ackb = s.ackb := rfl
@[simp] theorem State.goTo_pollcnt (s : State) (p : SendPoint) : (s.goTo p).pollcnt = s.pollcnt := rfl
@[simp] theorem State.goTo_pollmax (s : State) (p : SendPoint) : (s.goTo p).pollmax = s.pollmax := rfl
@[simp] theorem State.goTo_settle (s : State) (p : SendPoint) : (s.goTo p).settle = s.settle := rfl
@[simp] theorem State.goTo_line (s : State) (p : SendPoint) : (s.goTo p).line = s.line := rfl
@[simp] theorem State.goTo_table (s : State) (p : SendPoint) : (s.goTo p).table = s.table := rfl
@[simp] theorem State.goTo_pb (s : State) (p : SendPoint) : (s.goTo p).pb = s.pb := rfl
@[simp] theorem State.goTo_fb (s : State) (p : SendPoint) : (s.goTo p).fb = s.fb := rfl
@[simp] theorem State.goTo_point (s : State) (p : SendPoint) : (s.goTo p).point = some p := rfl
@[simp] theorem State.goTo_trace (s : State) (p : SendPoint) : (s.goTo p).trace = s.trace := rfl
@[simp] theorem State.goTo_responses (s : State) (p : SendPoint) : (s.goTo p).responses = s.responses := rfl
@[simp] theorem State.goTo_cmds (s : State) (p : SendPoint) : (s.goTo p).cmds = s.cmds := rfl
@[simp] theorem State.goTo_sigIn (s : State) (p : SendPoint) : (s.goTo p).sigIn = s.sigIn := rfl
@[simp] theorem State.goTo_writeIn (s : State) (p : SendPoint) : (s.goTo p).writeIn = s.writeIn := rfl
@[simp] theorem State.goTo_readIn (s : State) (p : SendPoint) : (s.goTo p).readIn = s.readIn := rfl

/-! A completed exchange counts and keeps its byte (42_handshake.md R129). -/

@[simp] theorem State.countExchange_state (s : State) (b : Byte) : (s.countExchange b).state = s.state := rfl
@[simp] theorem State.countExchange_tv (s : State) (b : Byte) : (s.countExchange b).tv = s.tv := rfl
@[simp] theorem State.countExchange_err (s : State) (b : Byte) : (s.countExchange b).err = s.err := rfl
@[simp] theorem State.countExchange_seq (s : State) (b : Byte) : (s.countExchange b).seq = s.seq := rfl
@[simp] theorem State.countExchange_plen (s : State) (b : Byte) : (s.countExchange b).plen = s.plen := rfl
@[simp] theorem State.countExchange_crcacc (s : State) (b : Byte) : (s.countExchange b).crcacc = s.crcacc := rfl
@[simp] theorem State.countExchange_crcr (s : State) (b : Byte) : (s.countExchange b).crcr = s.crcr := rfl
@[simp] theorem State.countExchange_ackb (s : State) (b : Byte) : (s.countExchange b).ackb = b := rfl
@[simp] theorem State.countExchange_pollcnt (s : State) (b : Byte) : (s.countExchange b).pollcnt = pollSucc s.pollcnt := rfl
@[simp] theorem State.countExchange_pollmax (s : State) (b : Byte) : (s.countExchange b).pollmax = s.pollmax := rfl
@[simp] theorem State.countExchange_settle (s : State) (b : Byte) : (s.countExchange b).settle = s.settle := rfl
@[simp] theorem State.countExchange_line (s : State) (b : Byte) : (s.countExchange b).line = s.line := rfl
@[simp] theorem State.countExchange_table (s : State) (b : Byte) : (s.countExchange b).table = s.table := rfl
@[simp] theorem State.countExchange_pb (s : State) (b : Byte) : (s.countExchange b).pb = s.pb := rfl
@[simp] theorem State.countExchange_fb (s : State) (b : Byte) : (s.countExchange b).fb = s.fb := rfl
@[simp] theorem State.countExchange_point (s : State) (b : Byte) : (s.countExchange b).point = s.point := rfl
@[simp] theorem State.countExchange_trace (s : State) (b : Byte) : (s.countExchange b).trace = s.trace := rfl
@[simp] theorem State.countExchange_responses (s : State) (b : Byte) : (s.countExchange b).responses = s.responses := rfl
@[simp] theorem State.countExchange_cmds (s : State) (b : Byte) : (s.countExchange b).cmds = s.cmds := rfl
@[simp] theorem State.countExchange_sigIn (s : State) (b : Byte) : (s.countExchange b).sigIn = s.sigIn := rfl
@[simp] theorem State.countExchange_writeIn (s : State) (b : Byte) : (s.countExchange b).writeIn = s.writeIn := rfl
@[simp] theorem State.countExchange_readIn (s : State) (b : Byte) : (s.countExchange b).readIn = s.readIn := rfl

/-! A response adds to `responses` and changes nothing else (30_encoding.md R70). -/

@[simp] theorem State.respond_state (s : State) (r : Result) (d : Word) : (s.respond r d).state = s.state := rfl
@[simp] theorem State.respond_tv (s : State) (r : Result) (d : Word) : (s.respond r d).tv = s.tv := rfl
@[simp] theorem State.respond_err (s : State) (r : Result) (d : Word) : (s.respond r d).err = s.err := rfl
@[simp] theorem State.respond_seq (s : State) (r : Result) (d : Word) : (s.respond r d).seq = s.seq := rfl
@[simp] theorem State.respond_plen (s : State) (r : Result) (d : Word) : (s.respond r d).plen = s.plen := rfl
@[simp] theorem State.respond_crcacc (s : State) (r : Result) (d : Word) : (s.respond r d).crcacc = s.crcacc := rfl
@[simp] theorem State.respond_crcr (s : State) (r : Result) (d : Word) : (s.respond r d).crcr = s.crcr := rfl
@[simp] theorem State.respond_ackb (s : State) (r : Result) (d : Word) : (s.respond r d).ackb = s.ackb := rfl
@[simp] theorem State.respond_pollcnt (s : State) (r : Result) (d : Word) : (s.respond r d).pollcnt = s.pollcnt := rfl
@[simp] theorem State.respond_pollmax (s : State) (r : Result) (d : Word) : (s.respond r d).pollmax = s.pollmax := rfl
@[simp] theorem State.respond_settle (s : State) (r : Result) (d : Word) : (s.respond r d).settle = s.settle := rfl
@[simp] theorem State.respond_line (s : State) (r : Result) (d : Word) : (s.respond r d).line = s.line := rfl
@[simp] theorem State.respond_table (s : State) (r : Result) (d : Word) : (s.respond r d).table = s.table := rfl
@[simp] theorem State.respond_pb (s : State) (r : Result) (d : Word) : (s.respond r d).pb = s.pb := rfl
@[simp] theorem State.respond_fb (s : State) (r : Result) (d : Word) : (s.respond r d).fb = s.fb := rfl
@[simp] theorem State.respond_point (s : State) (r : Result) (d : Word) : (s.respond r d).point = s.point := rfl
@[simp] theorem State.respond_trace (s : State) (r : Result) (d : Word) : (s.respond r d).trace = s.trace := rfl
@[simp] theorem State.respond_responses (s : State) (r : Result) (d : Word) : (s.respond r d).responses = s.responses ++ [⟨r.code, d⟩] := rfl
@[simp] theorem State.respond_cmds (s : State) (r : Result) (d : Word) : (s.respond r d).cmds = s.cmds := rfl
@[simp] theorem State.respond_sigIn (s : State) (r : Result) (d : Word) : (s.respond r d).sigIn = s.sigIn := rfl
@[simp] theorem State.respond_writeIn (s : State) (r : Result) (d : Word) : (s.respond r d).writeIn = s.writeIn := rfl
@[simp] theorem State.respond_readIn (s : State) (r : Result) (d : Word) : (s.respond r d).readIn = s.readIn := rfl

/-! A command fault adds a response and changes nothing else (60_exceptions.md R172). -/

@[simp] theorem State.raise_state (s : State) (r : Result) : (s.raise r).state = s.state := rfl
@[simp] theorem State.raise_tv (s : State) (r : Result) : (s.raise r).tv = s.tv := rfl
@[simp] theorem State.raise_err (s : State) (r : Result) : (s.raise r).err = s.err := rfl
@[simp] theorem State.raise_seq (s : State) (r : Result) : (s.raise r).seq = s.seq := rfl
@[simp] theorem State.raise_plen (s : State) (r : Result) : (s.raise r).plen = s.plen := rfl
@[simp] theorem State.raise_crcacc (s : State) (r : Result) : (s.raise r).crcacc = s.crcacc := rfl
@[simp] theorem State.raise_crcr (s : State) (r : Result) : (s.raise r).crcr = s.crcr := rfl
@[simp] theorem State.raise_ackb (s : State) (r : Result) : (s.raise r).ackb = s.ackb := rfl
@[simp] theorem State.raise_pollcnt (s : State) (r : Result) : (s.raise r).pollcnt = s.pollcnt := rfl
@[simp] theorem State.raise_pollmax (s : State) (r : Result) : (s.raise r).pollmax = s.pollmax := rfl
@[simp] theorem State.raise_settle (s : State) (r : Result) : (s.raise r).settle = s.settle := rfl
@[simp] theorem State.raise_line (s : State) (r : Result) : (s.raise r).line = s.line := rfl
@[simp] theorem State.raise_table (s : State) (r : Result) : (s.raise r).table = s.table := rfl
@[simp] theorem State.raise_pb (s : State) (r : Result) : (s.raise r).pb = s.pb := rfl
@[simp] theorem State.raise_fb (s : State) (r : Result) : (s.raise r).fb = s.fb := rfl
@[simp] theorem State.raise_point (s : State) (r : Result) : (s.raise r).point = s.point := rfl
@[simp] theorem State.raise_trace (s : State) (r : Result) : (s.raise r).trace = s.trace := rfl
@[simp] theorem State.raise_responses (s : State) (r : Result) : (s.raise r).responses = s.responses ++ [⟨r.code, 0#32⟩] := rfl
@[simp] theorem State.raise_cmds (s : State) (r : Result) : (s.raise r).cmds = s.cmds := rfl
@[simp] theorem State.raise_sigIn (s : State) (r : Result) : (s.raise r).sigIn = s.sigIn := rfl
@[simp] theorem State.raise_writeIn (s : State) (r : Result) : (s.raise r).writeIn = s.writeIn := rfl
@[simp] theorem State.raise_readIn (s : State) (r : Result) : (s.raise r).readIn = s.readIn := rfl

/-! The table build writes `T` and `TV` only (40_crc.md R81). -/

@[simp] theorem State.buildTable_state (s : State) : (s.buildTable).state = s.state := rfl
@[simp] theorem State.buildTable_tv (s : State) : (s.buildTable).tv = true := rfl
@[simp] theorem State.buildTable_err (s : State) : (s.buildTable).err = s.err := rfl
@[simp] theorem State.buildTable_seq (s : State) : (s.buildTable).seq = s.seq := rfl
@[simp] theorem State.buildTable_plen (s : State) : (s.buildTable).plen = s.plen := rfl
@[simp] theorem State.buildTable_crcacc (s : State) : (s.buildTable).crcacc = s.crcacc := rfl
@[simp] theorem State.buildTable_crcr (s : State) : (s.buildTable).crcr = s.crcr := rfl
@[simp] theorem State.buildTable_ackb (s : State) : (s.buildTable).ackb = s.ackb := rfl
@[simp] theorem State.buildTable_pollcnt (s : State) : (s.buildTable).pollcnt = s.pollcnt := rfl
@[simp] theorem State.buildTable_pollmax (s : State) : (s.buildTable).pollmax = s.pollmax := rfl
@[simp] theorem State.buildTable_settle (s : State) : (s.buildTable).settle = s.settle := rfl
@[simp] theorem State.buildTable_line (s : State) : (s.buildTable).line = s.line := rfl
@[simp] theorem State.buildTable_table (s : State) : (s.buildTable).table = builtTable := rfl
@[simp] theorem State.buildTable_pb (s : State) : (s.buildTable).pb = s.pb := rfl
@[simp] theorem State.buildTable_fb (s : State) : (s.buildTable).fb = s.fb := rfl
@[simp] theorem State.buildTable_point (s : State) : (s.buildTable).point = s.point := rfl
@[simp] theorem State.buildTable_trace (s : State) : (s.buildTable).trace = s.trace := rfl
@[simp] theorem State.buildTable_responses (s : State) : (s.buildTable).responses = s.responses := rfl
@[simp] theorem State.buildTable_cmds (s : State) : (s.buildTable).cmds = s.cmds := rfl
@[simp] theorem State.buildTable_sigIn (s : State) : (s.buildTable).sigIn = s.sigIn := rfl
@[simp] theorem State.buildTable_writeIn (s : State) : (s.buildTable).writeIn = s.writeIn := rfl
@[simp] theorem State.buildTable_readIn (s : State) : (s.buildTable).readIn = s.readIn := rfl

/-! `EnsureTable` writes at most `T` and `TV` (40_crc.md R82). -/

@[simp] theorem State.ensureTable_state (s : State) : (s.ensureTable).state = s.state := by
  unfold State.ensureTable; split <;> rfl
@[simp] theorem State.ensureTable_tv (s : State) : (s.ensureTable).tv = true := by
  unfold State.ensureTable; split <;> simp_all [State.buildTable]
@[simp] theorem State.ensureTable_err (s : State) : (s.ensureTable).err = s.err := by
  unfold State.ensureTable; split <;> rfl
@[simp] theorem State.ensureTable_seq (s : State) : (s.ensureTable).seq = s.seq := by
  unfold State.ensureTable; split <;> rfl
@[simp] theorem State.ensureTable_plen (s : State) : (s.ensureTable).plen = s.plen := by
  unfold State.ensureTable; split <;> rfl
@[simp] theorem State.ensureTable_crcacc (s : State) : (s.ensureTable).crcacc = s.crcacc := by
  unfold State.ensureTable; split <;> rfl
@[simp] theorem State.ensureTable_crcr (s : State) : (s.ensureTable).crcr = s.crcr := by
  unfold State.ensureTable; split <;> rfl
@[simp] theorem State.ensureTable_ackb (s : State) : (s.ensureTable).ackb = s.ackb := by
  unfold State.ensureTable; split <;> rfl
@[simp] theorem State.ensureTable_pollcnt (s : State) : (s.ensureTable).pollcnt = s.pollcnt := by
  unfold State.ensureTable; split <;> rfl
@[simp] theorem State.ensureTable_pollmax (s : State) : (s.ensureTable).pollmax = s.pollmax := by
  unfold State.ensureTable; split <;> rfl
@[simp] theorem State.ensureTable_settle (s : State) : (s.ensureTable).settle = s.settle := by
  unfold State.ensureTable; split <;> rfl
@[simp] theorem State.ensureTable_line (s : State) : (s.ensureTable).line = s.line := by
  unfold State.ensureTable; split <;> rfl
@[simp] theorem State.ensureTable_pb (s : State) : (s.ensureTable).pb = s.pb := by
  unfold State.ensureTable; split <;> rfl
@[simp] theorem State.ensureTable_fb (s : State) : (s.ensureTable).fb = s.fb := by
  unfold State.ensureTable; split <;> rfl
@[simp] theorem State.ensureTable_point (s : State) : (s.ensureTable).point = s.point := by
  unfold State.ensureTable; split <;> rfl
@[simp] theorem State.ensureTable_trace (s : State) : (s.ensureTable).trace = s.trace := by
  unfold State.ensureTable; split <;> rfl
@[simp] theorem State.ensureTable_responses (s : State) : (s.ensureTable).responses = s.responses := by
  unfold State.ensureTable; split <;> rfl
@[simp] theorem State.ensureTable_cmds (s : State) : (s.ensureTable).cmds = s.cmds := by
  unfold State.ensureTable; split <;> rfl
@[simp] theorem State.ensureTable_sigIn (s : State) : (s.ensureTable).sigIn = s.sigIn := by
  unfold State.ensureTable; split <;> rfl
@[simp] theorem State.ensureTable_writeIn (s : State) : (s.ensureTable).writeIn = s.writeIn := by
  unfold State.ensureTable; split <;> rfl
@[simp] theorem State.ensureTable_readIn (s : State) : (s.ensureTable).readIn = s.readIn := by
  unfold State.ensureTable; split <;> rfl

/-! Storing a frame writes `FB` only (41_frame.md R105). -/

@[simp] theorem State.storeFrame_state (s : State) (f : List Byte) : (s.storeFrame f).state = s.state := rfl
@[simp] theorem State.storeFrame_tv (s : State) (f : List Byte) : (s.storeFrame f).tv = s.tv := rfl
@[simp] theorem State.storeFrame_err (s : State) (f : List Byte) : (s.storeFrame f).err = s.err := rfl
@[simp] theorem State.storeFrame_seq (s : State) (f : List Byte) : (s.storeFrame f).seq = s.seq := rfl
@[simp] theorem State.storeFrame_plen (s : State) (f : List Byte) : (s.storeFrame f).plen = s.plen := rfl
@[simp] theorem State.storeFrame_crcacc (s : State) (f : List Byte) : (s.storeFrame f).crcacc = s.crcacc := rfl
@[simp] theorem State.storeFrame_crcr (s : State) (f : List Byte) : (s.storeFrame f).crcr = s.crcr := rfl
@[simp] theorem State.storeFrame_ackb (s : State) (f : List Byte) : (s.storeFrame f).ackb = s.ackb := rfl
@[simp] theorem State.storeFrame_pollcnt (s : State) (f : List Byte) : (s.storeFrame f).pollcnt = s.pollcnt := rfl
@[simp] theorem State.storeFrame_pollmax (s : State) (f : List Byte) : (s.storeFrame f).pollmax = s.pollmax := rfl
@[simp] theorem State.storeFrame_settle (s : State) (f : List Byte) : (s.storeFrame f).settle = s.settle := rfl
@[simp] theorem State.storeFrame_line (s : State) (f : List Byte) : (s.storeFrame f).line = s.line := rfl
@[simp] theorem State.storeFrame_table (s : State) (f : List Byte) : (s.storeFrame f).table = s.table := rfl
@[simp] theorem State.storeFrame_pb (s : State) (f : List Byte) : (s.storeFrame f).pb = s.pb := rfl
@[simp] theorem State.storeFrame_fb (s : State) (f : List Byte) : (s.storeFrame f).fb = Cells.ofList f := rfl
@[simp] theorem State.storeFrame_point (s : State) (f : List Byte) : (s.storeFrame f).point = s.point := rfl
@[simp] theorem State.storeFrame_trace (s : State) (f : List Byte) : (s.storeFrame f).trace = s.trace := rfl
@[simp] theorem State.storeFrame_responses (s : State) (f : List Byte) : (s.storeFrame f).responses = s.responses := rfl
@[simp] theorem State.storeFrame_cmds (s : State) (f : List Byte) : (s.storeFrame f).cmds = s.cmds := rfl
@[simp] theorem State.storeFrame_sigIn (s : State) (f : List Byte) : (s.storeFrame f).sigIn = s.sigIn := rfl
@[simp] theorem State.storeFrame_writeIn (s : State) (f : List Byte) : (s.storeFrame f).writeIn = s.writeIn := rfl
@[simp] theorem State.storeFrame_readIn (s : State) (f : List Byte) : (s.storeFrame f).readIn = s.readIn := rfl

/-! A `SigWrite` adds one event and uses one answer (20_memory.md R50). -/

@[simp] theorem State.sigWrite_state (s : State) (l : Half) (v : Level) : (s.sigWrite l v).state = s.state := rfl
@[simp] theorem State.sigWrite_tv (s : State) (l : Half) (v : Level) : (s.sigWrite l v).tv = s.tv := rfl
@[simp] theorem State.sigWrite_err (s : State) (l : Half) (v : Level) : (s.sigWrite l v).err = s.err := rfl
@[simp] theorem State.sigWrite_seq (s : State) (l : Half) (v : Level) : (s.sigWrite l v).seq = s.seq := rfl
@[simp] theorem State.sigWrite_plen (s : State) (l : Half) (v : Level) : (s.sigWrite l v).plen = s.plen := rfl
@[simp] theorem State.sigWrite_crcacc (s : State) (l : Half) (v : Level) : (s.sigWrite l v).crcacc = s.crcacc := rfl
@[simp] theorem State.sigWrite_crcr (s : State) (l : Half) (v : Level) : (s.sigWrite l v).crcr = s.crcr := rfl
@[simp] theorem State.sigWrite_ackb (s : State) (l : Half) (v : Level) : (s.sigWrite l v).ackb = s.ackb := rfl
@[simp] theorem State.sigWrite_pollcnt (s : State) (l : Half) (v : Level) : (s.sigWrite l v).pollcnt = s.pollcnt := rfl
@[simp] theorem State.sigWrite_pollmax (s : State) (l : Half) (v : Level) : (s.sigWrite l v).pollmax = s.pollmax := rfl
@[simp] theorem State.sigWrite_settle (s : State) (l : Half) (v : Level) : (s.sigWrite l v).settle = s.settle := rfl
@[simp] theorem State.sigWrite_line (s : State) (l : Half) (v : Level) : (s.sigWrite l v).line = s.line := rfl
@[simp] theorem State.sigWrite_table (s : State) (l : Half) (v : Level) : (s.sigWrite l v).table = s.table := rfl
@[simp] theorem State.sigWrite_pb (s : State) (l : Half) (v : Level) : (s.sigWrite l v).pb = s.pb := rfl
@[simp] theorem State.sigWrite_fb (s : State) (l : Half) (v : Level) : (s.sigWrite l v).fb = s.fb := rfl
@[simp] theorem State.sigWrite_point (s : State) (l : Half) (v : Level) : (s.sigWrite l v).point = s.point := rfl
@[simp] theorem State.sigWrite_trace (s : State) (l : Half) (v : Level) : (s.sigWrite l v).trace = s.trace ++ [.sigWrite l v (s.sigAnswer l v)] := rfl
@[simp] theorem State.sigWrite_responses (s : State) (l : Half) (v : Level) : (s.sigWrite l v).responses = s.responses := rfl
@[simp] theorem State.sigWrite_cmds (s : State) (l : Half) (v : Level) : (s.sigWrite l v).cmds = s.cmds := rfl
@[simp] theorem State.sigWrite_sigIn (s : State) (l : Half) (v : Level) : (s.sigWrite l v).sigIn = s.sigIn.tail := rfl
@[simp] theorem State.sigWrite_writeIn (s : State) (l : Half) (v : Level) : (s.sigWrite l v).writeIn = s.writeIn := rfl
@[simp] theorem State.sigWrite_readIn (s : State) (l : Half) (v : Level) : (s.sigWrite l v).readIn = s.readIn := rfl

/-! A `Delay` adds one event (20_memory.md R53). -/

@[simp] theorem State.delay_state (s : State) (k : Half) : (s.delay k).state = s.state := rfl
@[simp] theorem State.delay_tv (s : State) (k : Half) : (s.delay k).tv = s.tv := rfl
@[simp] theorem State.delay_err (s : State) (k : Half) : (s.delay k).err = s.err := rfl
@[simp] theorem State.delay_seq (s : State) (k : Half) : (s.delay k).seq = s.seq := rfl
@[simp] theorem State.delay_plen (s : State) (k : Half) : (s.delay k).plen = s.plen := rfl
@[simp] theorem State.delay_crcacc (s : State) (k : Half) : (s.delay k).crcacc = s.crcacc := rfl
@[simp] theorem State.delay_crcr (s : State) (k : Half) : (s.delay k).crcr = s.crcr := rfl
@[simp] theorem State.delay_ackb (s : State) (k : Half) : (s.delay k).ackb = s.ackb := rfl
@[simp] theorem State.delay_pollcnt (s : State) (k : Half) : (s.delay k).pollcnt = s.pollcnt := rfl
@[simp] theorem State.delay_pollmax (s : State) (k : Half) : (s.delay k).pollmax = s.pollmax := rfl
@[simp] theorem State.delay_settle (s : State) (k : Half) : (s.delay k).settle = s.settle := rfl
@[simp] theorem State.delay_line (s : State) (k : Half) : (s.delay k).line = s.line := rfl
@[simp] theorem State.delay_table (s : State) (k : Half) : (s.delay k).table = s.table := rfl
@[simp] theorem State.delay_pb (s : State) (k : Half) : (s.delay k).pb = s.pb := rfl
@[simp] theorem State.delay_fb (s : State) (k : Half) : (s.delay k).fb = s.fb := rfl
@[simp] theorem State.delay_point (s : State) (k : Half) : (s.delay k).point = s.point := rfl
@[simp] theorem State.delay_trace (s : State) (k : Half) : (s.delay k).trace = s.trace ++ [.delay k] := rfl
@[simp] theorem State.delay_responses (s : State) (k : Half) : (s.delay k).responses = s.responses := rfl
@[simp] theorem State.delay_cmds (s : State) (k : Half) : (s.delay k).cmds = s.cmds := rfl
@[simp] theorem State.delay_sigIn (s : State) (k : Half) : (s.delay k).sigIn = s.sigIn := rfl
@[simp] theorem State.delay_writeIn (s : State) (k : Half) : (s.delay k).writeIn = s.writeIn := rfl
@[simp] theorem State.delay_readIn (s : State) (k : Half) : (s.delay k).readIn = s.readIn := rfl

/-! A `ChanWrite` adds one event and uses one answer (20_memory.md R51). -/

@[simp] theorem State.chanWrite_state (s : State) (bs : List Byte) : (s.chanWrite bs).state = s.state := rfl
@[simp] theorem State.chanWrite_tv (s : State) (bs : List Byte) : (s.chanWrite bs).tv = s.tv := rfl
@[simp] theorem State.chanWrite_err (s : State) (bs : List Byte) : (s.chanWrite bs).err = s.err := rfl
@[simp] theorem State.chanWrite_seq (s : State) (bs : List Byte) : (s.chanWrite bs).seq = s.seq := rfl
@[simp] theorem State.chanWrite_plen (s : State) (bs : List Byte) : (s.chanWrite bs).plen = s.plen := rfl
@[simp] theorem State.chanWrite_crcacc (s : State) (bs : List Byte) : (s.chanWrite bs).crcacc = s.crcacc := rfl
@[simp] theorem State.chanWrite_crcr (s : State) (bs : List Byte) : (s.chanWrite bs).crcr = s.crcr := rfl
@[simp] theorem State.chanWrite_ackb (s : State) (bs : List Byte) : (s.chanWrite bs).ackb = s.ackb := rfl
@[simp] theorem State.chanWrite_pollcnt (s : State) (bs : List Byte) : (s.chanWrite bs).pollcnt = s.pollcnt := rfl
@[simp] theorem State.chanWrite_pollmax (s : State) (bs : List Byte) : (s.chanWrite bs).pollmax = s.pollmax := rfl
@[simp] theorem State.chanWrite_settle (s : State) (bs : List Byte) : (s.chanWrite bs).settle = s.settle := rfl
@[simp] theorem State.chanWrite_line (s : State) (bs : List Byte) : (s.chanWrite bs).line = s.line := rfl
@[simp] theorem State.chanWrite_table (s : State) (bs : List Byte) : (s.chanWrite bs).table = s.table := rfl
@[simp] theorem State.chanWrite_pb (s : State) (bs : List Byte) : (s.chanWrite bs).pb = s.pb := rfl
@[simp] theorem State.chanWrite_fb (s : State) (bs : List Byte) : (s.chanWrite bs).fb = s.fb := rfl
@[simp] theorem State.chanWrite_point (s : State) (bs : List Byte) : (s.chanWrite bs).point = s.point := rfl
@[simp] theorem State.chanWrite_trace (s : State) (bs : List Byte) : (s.chanWrite bs).trace = s.trace ++ [.chanWrite bs (s.writeAnswer bs)] := rfl
@[simp] theorem State.chanWrite_responses (s : State) (bs : List Byte) : (s.chanWrite bs).responses = s.responses := rfl
@[simp] theorem State.chanWrite_cmds (s : State) (bs : List Byte) : (s.chanWrite bs).cmds = s.cmds := rfl
@[simp] theorem State.chanWrite_sigIn (s : State) (bs : List Byte) : (s.chanWrite bs).sigIn = s.sigIn := rfl
@[simp] theorem State.chanWrite_writeIn (s : State) (bs : List Byte) : (s.chanWrite bs).writeIn = s.writeIn.tail := rfl
@[simp] theorem State.chanWrite_readIn (s : State) (bs : List Byte) : (s.chanWrite bs).readIn = s.readIn := rfl

/-! A `ChanRead` adds one event and uses one answer (20_memory.md R52). -/

@[simp] theorem State.chanRead_state (s : State) : (s.chanRead).state = s.state := rfl
@[simp] theorem State.chanRead_tv (s : State) : (s.chanRead).tv = s.tv := rfl
@[simp] theorem State.chanRead_err (s : State) : (s.chanRead).err = s.err := rfl
@[simp] theorem State.chanRead_seq (s : State) : (s.chanRead).seq = s.seq := rfl
@[simp] theorem State.chanRead_plen (s : State) : (s.chanRead).plen = s.plen := rfl
@[simp] theorem State.chanRead_crcacc (s : State) : (s.chanRead).crcacc = s.crcacc := rfl
@[simp] theorem State.chanRead_crcr (s : State) : (s.chanRead).crcr = s.crcr := rfl
@[simp] theorem State.chanRead_ackb (s : State) : (s.chanRead).ackb = s.ackb := rfl
@[simp] theorem State.chanRead_pollcnt (s : State) : (s.chanRead).pollcnt = s.pollcnt := rfl
@[simp] theorem State.chanRead_pollmax (s : State) : (s.chanRead).pollmax = s.pollmax := rfl
@[simp] theorem State.chanRead_settle (s : State) : (s.chanRead).settle = s.settle := rfl
@[simp] theorem State.chanRead_line (s : State) : (s.chanRead).line = s.line := rfl
@[simp] theorem State.chanRead_table (s : State) : (s.chanRead).table = s.table := rfl
@[simp] theorem State.chanRead_pb (s : State) : (s.chanRead).pb = s.pb := rfl
@[simp] theorem State.chanRead_fb (s : State) : (s.chanRead).fb = s.fb := rfl
@[simp] theorem State.chanRead_point (s : State) : (s.chanRead).point = s.point := rfl
@[simp] theorem State.chanRead_trace (s : State) : (s.chanRead).trace = s.trace ++ [.chanRead s.readAnswer] := rfl
@[simp] theorem State.chanRead_responses (s : State) : (s.chanRead).responses = s.responses := rfl
@[simp] theorem State.chanRead_cmds (s : State) : (s.chanRead).cmds = s.cmds := rfl
@[simp] theorem State.chanRead_sigIn (s : State) : (s.chanRead).sigIn = s.sigIn := rfl
@[simp] theorem State.chanRead_writeIn (s : State) : (s.chanRead).writeIn = s.writeIn := rfl
@[simp] theorem State.chanRead_readIn (s : State) : (s.chanRead).readIn = s.readIn.tail := rfl

/-! `finish` writes `STATE`, `ERR` and the response, and ends the command (42_handshake.md R124, R132). -/

@[simp] theorem State.finish_state (s : State) (st : PacketState) (r : Result) : (s.finish st r).state = st := rfl
@[simp] theorem State.finish_tv (s : State) (st : PacketState) (r : Result) : (s.finish st r).tv = s.tv := rfl
@[simp] theorem State.finish_err (s : State) (st : PacketState) (r : Result) : (s.finish st r).err = r.code := rfl
@[simp] theorem State.finish_seq (s : State) (st : PacketState) (r : Result) : (s.finish st r).seq = s.seq := rfl
@[simp] theorem State.finish_plen (s : State) (st : PacketState) (r : Result) : (s.finish st r).plen = s.plen := rfl
@[simp] theorem State.finish_crcacc (s : State) (st : PacketState) (r : Result) : (s.finish st r).crcacc = s.crcacc := rfl
@[simp] theorem State.finish_crcr (s : State) (st : PacketState) (r : Result) : (s.finish st r).crcr = s.crcr := rfl
@[simp] theorem State.finish_ackb (s : State) (st : PacketState) (r : Result) : (s.finish st r).ackb = s.ackb := rfl
@[simp] theorem State.finish_pollcnt (s : State) (st : PacketState) (r : Result) : (s.finish st r).pollcnt = s.pollcnt := rfl
@[simp] theorem State.finish_pollmax (s : State) (st : PacketState) (r : Result) : (s.finish st r).pollmax = s.pollmax := rfl
@[simp] theorem State.finish_settle (s : State) (st : PacketState) (r : Result) : (s.finish st r).settle = s.settle := rfl
@[simp] theorem State.finish_line (s : State) (st : PacketState) (r : Result) : (s.finish st r).line = s.line := rfl
@[simp] theorem State.finish_table (s : State) (st : PacketState) (r : Result) : (s.finish st r).table = s.table := rfl
@[simp] theorem State.finish_pb (s : State) (st : PacketState) (r : Result) : (s.finish st r).pb = s.pb := rfl
@[simp] theorem State.finish_fb (s : State) (st : PacketState) (r : Result) : (s.finish st r).fb = s.fb := rfl
@[simp] theorem State.finish_point (s : State) (st : PacketState) (r : Result) : (s.finish st r).point = none := rfl
@[simp] theorem State.finish_trace (s : State) (st : PacketState) (r : Result) : (s.finish st r).trace = s.trace := rfl
@[simp] theorem State.finish_responses (s : State) (st : PacketState) (r : Result) : (s.finish st r).responses = s.responses ++ [⟨r.code, 0#32⟩] := rfl
@[simp] theorem State.finish_cmds (s : State) (st : PacketState) (r : Result) : (s.finish st r).cmds = s.cmds := rfl
@[simp] theorem State.finish_sigIn (s : State) (st : PacketState) (r : Result) : (s.finish st r).sigIn = s.sigIn := rfl
@[simp] theorem State.finish_writeIn (s : State) (st : PacketState) (r : Result) : (s.finish st r).writeIn = s.writeIn := rfl
@[simp] theorem State.finish_readIn (s : State) (st : PacketState) (r : Result) : (s.finish st r).readIn = s.readIn := rfl

/-! Taking a word changes `cmds` only (20_memory.md R44). -/

@[simp] theorem State.commandTaken_state (s : State) : (s.commandTaken).state = s.state := rfl
@[simp] theorem State.commandTaken_tv (s : State) : (s.commandTaken).tv = s.tv := rfl
@[simp] theorem State.commandTaken_err (s : State) : (s.commandTaken).err = s.err := rfl
@[simp] theorem State.commandTaken_seq (s : State) : (s.commandTaken).seq = s.seq := rfl
@[simp] theorem State.commandTaken_plen (s : State) : (s.commandTaken).plen = s.plen := rfl
@[simp] theorem State.commandTaken_crcacc (s : State) : (s.commandTaken).crcacc = s.crcacc := rfl
@[simp] theorem State.commandTaken_crcr (s : State) : (s.commandTaken).crcr = s.crcr := rfl
@[simp] theorem State.commandTaken_ackb (s : State) : (s.commandTaken).ackb = s.ackb := rfl
@[simp] theorem State.commandTaken_pollcnt (s : State) : (s.commandTaken).pollcnt = s.pollcnt := rfl
@[simp] theorem State.commandTaken_pollmax (s : State) : (s.commandTaken).pollmax = s.pollmax := rfl
@[simp] theorem State.commandTaken_settle (s : State) : (s.commandTaken).settle = s.settle := rfl
@[simp] theorem State.commandTaken_line (s : State) : (s.commandTaken).line = s.line := rfl
@[simp] theorem State.commandTaken_table (s : State) : (s.commandTaken).table = s.table := rfl
@[simp] theorem State.commandTaken_pb (s : State) : (s.commandTaken).pb = s.pb := rfl
@[simp] theorem State.commandTaken_fb (s : State) : (s.commandTaken).fb = s.fb := rfl
@[simp] theorem State.commandTaken_point (s : State) : (s.commandTaken).point = s.point := rfl
@[simp] theorem State.commandTaken_trace (s : State) : (s.commandTaken).trace = s.trace := rfl
@[simp] theorem State.commandTaken_responses (s : State) : (s.commandTaken).responses = s.responses := rfl
@[simp] theorem State.commandTaken_cmds (s : State) : (s.commandTaken).cmds = s.cmds.tail := rfl
@[simp] theorem State.commandTaken_sigIn (s : State) : (s.commandTaken).sigIn = s.sigIn := rfl
@[simp] theorem State.commandTaken_writeIn (s : State) : (s.commandTaken).writeIn = s.writeIn := rfl
@[simp] theorem State.commandTaken_readIn (s : State) : (s.commandTaken).readIn = s.readIn := rfl

/-! Placing a command sets what the fetch needs and nothing else. -/

@[simp] theorem State.placeCommand_state (s : State) (w : Word) : (s.placeCommand w).state = s.state := rfl
@[simp] theorem State.placeCommand_tv (s : State) (w : Word) : (s.placeCommand w).tv = s.tv := rfl
@[simp] theorem State.placeCommand_err (s : State) (w : Word) : (s.placeCommand w).err = s.err := rfl
@[simp] theorem State.placeCommand_seq (s : State) (w : Word) : (s.placeCommand w).seq = s.seq := rfl
@[simp] theorem State.placeCommand_plen (s : State) (w : Word) : (s.placeCommand w).plen = s.plen := rfl
@[simp] theorem State.placeCommand_crcacc (s : State) (w : Word) : (s.placeCommand w).crcacc = s.crcacc := rfl
@[simp] theorem State.placeCommand_crcr (s : State) (w : Word) : (s.placeCommand w).crcr = s.crcr := rfl
@[simp] theorem State.placeCommand_ackb (s : State) (w : Word) : (s.placeCommand w).ackb = s.ackb := rfl
@[simp] theorem State.placeCommand_pollcnt (s : State) (w : Word) : (s.placeCommand w).pollcnt = s.pollcnt := rfl
@[simp] theorem State.placeCommand_pollmax (s : State) (w : Word) : (s.placeCommand w).pollmax = s.pollmax := rfl
@[simp] theorem State.placeCommand_settle (s : State) (w : Word) : (s.placeCommand w).settle = s.settle := rfl
@[simp] theorem State.placeCommand_line (s : State) (w : Word) : (s.placeCommand w).line = s.line := rfl
@[simp] theorem State.placeCommand_table (s : State) (w : Word) : (s.placeCommand w).table = s.table := rfl
@[simp] theorem State.placeCommand_pb (s : State) (w : Word) : (s.placeCommand w).pb = s.pb := rfl
@[simp] theorem State.placeCommand_fb (s : State) (w : Word) : (s.placeCommand w).fb = s.fb := rfl
@[simp] theorem State.placeCommand_point (s : State) (w : Word) : (s.placeCommand w).point = none := rfl
@[simp] theorem State.placeCommand_trace (s : State) (w : Word) : (s.placeCommand w).trace = s.trace := rfl
@[simp] theorem State.placeCommand_responses (s : State) (w : Word) : (s.placeCommand w).responses = s.responses := rfl
@[simp] theorem State.placeCommand_cmds (s : State) (w : Word) : (s.placeCommand w).cmds = w :: s.cmds := rfl
@[simp] theorem State.placeCommand_sigIn (s : State) (w : Word) : (s.placeCommand w).sigIn = s.sigIn := rfl
@[simp] theorem State.placeCommand_writeIn (s : State) (w : Word) : (s.placeCommand w).writeIn = s.writeIn := rfl
@[simp] theorem State.placeCommand_readIn (s : State) (w : Word) : (s.placeCommand w).readIn = s.readIn := rfl

/-! The reads of the buffers, through the updates that leave their buffer alone. -/

@[simp] theorem State.setState_payload (s : State) (st : PacketState) : (s.setState st).payload = s.payload := rfl
@[simp] theorem State.setState_payloadByte (s : State) (st : PacketState) : (s.setState st).payloadByte = s.payloadByte := rfl
@[simp] theorem State.setState_frameByte (s : State) (st : PacketState) : (s.setState st).frameByte = s.frameByte := rfl
@[simp] theorem State.setState_lineLevel (s : State) (st : PacketState) : (s.setState st).lineLevel = s.lineLevel := rfl
@[simp] theorem State.setState_tableEntry (s : State) (st : PacketState) : (s.setState st).tableEntry = s.tableEntry := rfl
@[simp] theorem State.setErr_payload (s : State) (e : Byte) : (s.setErr e).payload = s.payload := rfl
@[simp] theorem State.setErr_payloadByte (s : State) (e : Byte) : (s.setErr e).payloadByte = s.payloadByte := rfl
@[simp] theorem State.setErr_frameByte (s : State) (e : Byte) : (s.setErr e).frameByte = s.frameByte := rfl
@[simp] theorem State.setErr_lineLevel (s : State) (e : Byte) : (s.setErr e).lineLevel = s.lineLevel := rfl
@[simp] theorem State.setErr_tableEntry (s : State) (e : Byte) : (s.setErr e).tableEntry = s.tableEntry := rfl
@[simp] theorem State.setCrcacc_payload (s : State) (a : Word) : (s.setCrcacc a).payload = s.payload := rfl
@[simp] theorem State.setCrcacc_payloadByte (s : State) (a : Word) : (s.setCrcacc a).payloadByte = s.payloadByte := rfl
@[simp] theorem State.setCrcacc_frameByte (s : State) (a : Word) : (s.setCrcacc a).frameByte = s.frameByte := rfl
@[simp] theorem State.setCrcacc_lineLevel (s : State) (a : Word) : (s.setCrcacc a).lineLevel = s.lineLevel := rfl
@[simp] theorem State.setCrcacc_tableEntry (s : State) (a : Word) : (s.setCrcacc a).tableEntry = s.tableEntry := rfl
@[simp] theorem State.setCrcr_payload (s : State) (c : Word) : (s.setCrcr c).payload = s.payload := rfl
@[simp] theorem State.setCrcr_payloadByte (s : State) (c : Word) : (s.setCrcr c).payloadByte = s.payloadByte := rfl
@[simp] theorem State.setCrcr_frameByte (s : State) (c : Word) : (s.setCrcr c).frameByte = s.frameByte := rfl
@[simp] theorem State.setCrcr_lineLevel (s : State) (c : Word) : (s.setCrcr c).lineLevel = s.lineLevel := rfl
@[simp] theorem State.setCrcr_tableEntry (s : State) (c : Word) : (s.setCrcr c).tableEntry = s.tableEntry := rfl
@[simp] theorem State.goTo_payload (s : State) (p : SendPoint) : (s.goTo p).payload = s.payload := rfl
@[simp] theorem State.goTo_payloadByte (s : State) (p : SendPoint) : (s.goTo p).payloadByte = s.payloadByte := rfl
@[simp] theorem State.goTo_frameByte (s : State) (p : SendPoint) : (s.goTo p).frameByte = s.frameByte := rfl
@[simp] theorem State.goTo_lineLevel (s : State) (p : SendPoint) : (s.goTo p).lineLevel = s.lineLevel := rfl
@[simp] theorem State.goTo_tableEntry (s : State) (p : SendPoint) : (s.goTo p).tableEntry = s.tableEntry := rfl
@[simp] theorem State.countExchange_payload (s : State) (b : Byte) : (s.countExchange b).payload = s.payload := rfl
@[simp] theorem State.countExchange_payloadByte (s : State) (b : Byte) : (s.countExchange b).payloadByte = s.payloadByte := rfl
@[simp] theorem State.countExchange_frameByte (s : State) (b : Byte) : (s.countExchange b).frameByte = s.frameByte := rfl
@[simp] theorem State.countExchange_lineLevel (s : State) (b : Byte) : (s.countExchange b).lineLevel = s.lineLevel := rfl
@[simp] theorem State.countExchange_tableEntry (s : State) (b : Byte) : (s.countExchange b).tableEntry = s.tableEntry := rfl
@[simp] theorem State.respond_payload (s : State) (r : Result) (d : Word) : (s.respond r d).payload = s.payload := rfl
@[simp] theorem State.respond_payloadByte (s : State) (r : Result) (d : Word) : (s.respond r d).payloadByte = s.payloadByte := rfl
@[simp] theorem State.respond_frameByte (s : State) (r : Result) (d : Word) : (s.respond r d).frameByte = s.frameByte := rfl
@[simp] theorem State.respond_lineLevel (s : State) (r : Result) (d : Word) : (s.respond r d).lineLevel = s.lineLevel := rfl
@[simp] theorem State.respond_tableEntry (s : State) (r : Result) (d : Word) : (s.respond r d).tableEntry = s.tableEntry := rfl
@[simp] theorem State.raise_payload (s : State) (r : Result) : (s.raise r).payload = s.payload := rfl
@[simp] theorem State.raise_payloadByte (s : State) (r : Result) : (s.raise r).payloadByte = s.payloadByte := rfl
@[simp] theorem State.raise_frameByte (s : State) (r : Result) : (s.raise r).frameByte = s.frameByte := rfl
@[simp] theorem State.raise_lineLevel (s : State) (r : Result) : (s.raise r).lineLevel = s.lineLevel := rfl
@[simp] theorem State.raise_tableEntry (s : State) (r : Result) : (s.raise r).tableEntry = s.tableEntry := rfl
@[simp] theorem State.buildTable_payload (s : State) : (s.buildTable).payload = s.payload := rfl
@[simp] theorem State.buildTable_payloadByte (s : State) : (s.buildTable).payloadByte = s.payloadByte := rfl
@[simp] theorem State.buildTable_frameByte (s : State) : (s.buildTable).frameByte = s.frameByte := rfl
@[simp] theorem State.buildTable_lineLevel (s : State) : (s.buildTable).lineLevel = s.lineLevel := rfl
@[simp] theorem State.ensureTable_payload (s : State) : (s.ensureTable).payload = s.payload := by
  unfold State.ensureTable; split <;> rfl
@[simp] theorem State.ensureTable_payloadByte (s : State) : (s.ensureTable).payloadByte = s.payloadByte := by
  unfold State.ensureTable; split <;> rfl
@[simp] theorem State.ensureTable_frameByte (s : State) : (s.ensureTable).frameByte = s.frameByte := by
  unfold State.ensureTable; split <;> rfl
@[simp] theorem State.ensureTable_lineLevel (s : State) : (s.ensureTable).lineLevel = s.lineLevel := by
  unfold State.ensureTable; split <;> rfl
@[simp] theorem State.storeFrame_payload (s : State) (f : List Byte) : (s.storeFrame f).payload = s.payload := rfl
@[simp] theorem State.storeFrame_payloadByte (s : State) (f : List Byte) : (s.storeFrame f).payloadByte = s.payloadByte := rfl
@[simp] theorem State.storeFrame_lineLevel (s : State) (f : List Byte) : (s.storeFrame f).lineLevel = s.lineLevel := rfl
@[simp] theorem State.storeFrame_tableEntry (s : State) (f : List Byte) : (s.storeFrame f).tableEntry = s.tableEntry := rfl
@[simp] theorem State.sigWrite_payload (s : State) (l : Half) (v : Level) : (s.sigWrite l v).payload = s.payload := rfl
@[simp] theorem State.sigWrite_payloadByte (s : State) (l : Half) (v : Level) : (s.sigWrite l v).payloadByte = s.payloadByte := rfl
@[simp] theorem State.sigWrite_frameByte (s : State) (l : Half) (v : Level) : (s.sigWrite l v).frameByte = s.frameByte := rfl
@[simp] theorem State.sigWrite_tableEntry (s : State) (l : Half) (v : Level) : (s.sigWrite l v).tableEntry = s.tableEntry := rfl
@[simp] theorem State.delay_payload (s : State) (k : Half) : (s.delay k).payload = s.payload := rfl
@[simp] theorem State.delay_payloadByte (s : State) (k : Half) : (s.delay k).payloadByte = s.payloadByte := rfl
@[simp] theorem State.delay_frameByte (s : State) (k : Half) : (s.delay k).frameByte = s.frameByte := rfl
@[simp] theorem State.delay_tableEntry (s : State) (k : Half) : (s.delay k).tableEntry = s.tableEntry := rfl
@[simp] theorem State.chanWrite_payload (s : State) (bs : List Byte) : (s.chanWrite bs).payload = s.payload := rfl
@[simp] theorem State.chanWrite_payloadByte (s : State) (bs : List Byte) : (s.chanWrite bs).payloadByte = s.payloadByte := rfl
@[simp] theorem State.chanWrite_frameByte (s : State) (bs : List Byte) : (s.chanWrite bs).frameByte = s.frameByte := rfl
@[simp] theorem State.chanWrite_tableEntry (s : State) (bs : List Byte) : (s.chanWrite bs).tableEntry = s.tableEntry := rfl
@[simp] theorem State.chanRead_payload (s : State) : (s.chanRead).payload = s.payload := rfl
@[simp] theorem State.chanRead_payloadByte (s : State) : (s.chanRead).payloadByte = s.payloadByte := rfl
@[simp] theorem State.chanRead_frameByte (s : State) : (s.chanRead).frameByte = s.frameByte := rfl
@[simp] theorem State.chanRead_tableEntry (s : State) : (s.chanRead).tableEntry = s.tableEntry := rfl
@[simp] theorem State.finish_payload (s : State) (st : PacketState) (r : Result) : (s.finish st r).payload = s.payload := rfl
@[simp] theorem State.finish_payloadByte (s : State) (st : PacketState) (r : Result) : (s.finish st r).payloadByte = s.payloadByte := rfl
@[simp] theorem State.finish_frameByte (s : State) (st : PacketState) (r : Result) : (s.finish st r).frameByte = s.frameByte := rfl
@[simp] theorem State.finish_lineLevel (s : State) (st : PacketState) (r : Result) : (s.finish st r).lineLevel = s.lineLevel := rfl
@[simp] theorem State.finish_tableEntry (s : State) (st : PacketState) (r : Result) : (s.finish st r).tableEntry = s.tableEntry := rfl
@[simp] theorem State.commandTaken_payload (s : State) : (s.commandTaken).payload = s.payload := rfl
@[simp] theorem State.commandTaken_payloadByte (s : State) : (s.commandTaken).payloadByte = s.payloadByte := rfl
@[simp] theorem State.commandTaken_frameByte (s : State) : (s.commandTaken).frameByte = s.frameByte := rfl
@[simp] theorem State.commandTaken_lineLevel (s : State) : (s.commandTaken).lineLevel = s.lineLevel := rfl
@[simp] theorem State.commandTaken_tableEntry (s : State) : (s.commandTaken).tableEntry = s.tableEntry := rfl
@[simp] theorem State.placeCommand_payload (s : State) (w : Word) : (s.placeCommand w).payload = s.payload := rfl
@[simp] theorem State.placeCommand_payloadByte (s : State) (w : Word) : (s.placeCommand w).payloadByte = s.payloadByte := rfl
@[simp] theorem State.placeCommand_frameByte (s : State) (w : Word) : (s.placeCommand w).frameByte = s.frameByte := rfl
@[simp] theorem State.placeCommand_lineLevel (s : State) (w : Word) : (s.placeCommand w).lineLevel = s.lineLevel := rfl
@[simp] theorem State.placeCommand_tableEntry (s : State) (w : Word) : (s.placeCommand w).tableEntry = s.tableEntry := rfl

/-- One event more, and a line's level after it (10_state.md R31). -/
theorem State.lineLevel_append {s t : State} {e : Event} (h : t.trace = s.trace ++ [e]) (l : Half) :
    t.lineLevel l = levelAfter l (s.lineLevel l) e := by
  simp [State.lineLevel, h]

/-- `EnsureTable` leaves a table that is already valid (40_crc.md R82). -/
theorem State.ensureTable_of_valid {s : State} (h : s.tv = true) : s.ensureTable = s := by
  simp [State.ensureTable, h]

/-- `EnsureTable` builds a table that is not valid yet (40_crc.md R82). -/
theorem State.ensureTable_of_not_valid {s : State} (h : s.tv = false) : s.ensureTable = s.buildTable := by
  simp [State.ensureTable, h]

/-- After `EnsureTable` the table is the built one, in every state whose `TV` tells the truth (10_state.md R26,
40_crc.md R82). -/
theorem State.ensureTable_eq {s : State} (h : s.tv = true → s.table = builtTable) :
    s.ensureTable = { s with tv := true, table := builtTable } := by
  cases hv : s.tv
  · rw [State.ensureTable_of_not_valid hv]; rfl
  · rw [State.ensureTable_of_valid hv]
    obtain ⟨⟩ := s
    simp_all

end Sys2Proof.Machine
end

