-- ==== Sys2Proof/Laws/Checksum.lean ====
section
/-! SUPPORT. The checksum and the frame: what they depend on, and the lengths of what they give. -/

namespace Sys2Proof.Machine

/-- The built table holds `Entry(i)` at every index (40_crc.md R80, R81). -/
theorem find_builtTable {i : Nat} (h : i < 256) : Cells.find i builtTable = some (crcEntry i) := by
  simp [builtTable, tableSize, h]

/-- Reading an entry of a built table (40_crc.md R80). -/
theorem State.tableEntry_of_built {s : State} (h : s.table = builtTable) {i : Nat} (hi : i < 256) :
    s.tableEntry i = crcEntry i := by
  simp [State.tableEntry, h, find_builtTable hi]

/-- `CrcStep` reads the table below 256 only (40_crc.md R83). -/
theorem crcStep_congr {t u : Nat → Word} (h : ∀ i, i < 256 → t i = u i) (a : Word) (b : Byte) :
    crcStep t a b = crcStep u a b := by
  unfold crcStep
  rw [h _ (BitVec.isLt _)]

/-- `CRC32` depends on the 256 entries and the bytes only (40_crc.md R84). -/
theorem crc32_congr {t u : Nat → Word} (h : ∀ i, i < 256 → t i = u i) (bytes : List Byte) :
    crc32 t bytes = crc32 u bytes := by
  rw [crc32, crc32, show crcStep t = crcStep u from funext fun a => funext fun b => crcStep_congr h a b]

/-- `Encode` depends on the 256 entries, the sequence id and the payload only (41_frame.md R104). -/
theorem encodeFrame_congr {t u : Nat → Word} (h : ∀ i, i < 256 → t i = u i) (seq : Half) (p : List Byte) :
    encodeFrame t seq p = encodeFrame u seq p := by
  rw [encodeFrame, encodeFrame, crc32_congr h]

/-- With a built table the step is the one of `Entry` (40_crc.md R80, R83). -/
theorem crcStep_of_built {s : State} (h : s.table = builtTable) (a : Word) (b : Byte) :
    crcStep s.tableEntry a b = crcStep crcEntry a b :=
  crcStep_congr (fun _ hi => State.tableEntry_of_built h hi) a b

theorem crc32_of_built {s : State} (h : s.table = builtTable) (bytes : List Byte) :
    crc32 s.tableEntry bytes = crc32 crcEntry bytes :=
  crc32_congr (fun _ hi => State.tableEntry_of_built h hi) bytes

theorem encodeFrame_of_built {s : State} (h : s.table = builtTable) (seq : Half) (p : List Byte) :
    encodeFrame s.tableEntry seq p = encodeFrame crcEntry seq p :=
  encodeFrame_congr (fun _ hi => State.tableEntry_of_built h hi) seq p

@[simp] theorem State.length_payload (s : State) : s.payload.length = s.plen.toNat := by
  simp [State.payload]

/-- The payload is made of `PLEN` and `PB` alone (10_state.md R27). -/
theorem State.payload_congr {s t : State} (h₁ : t.plen = s.plen) (h₂ : t.pb = s.pb) : t.payload = s.payload := by
  simp [State.payload, h₁, State.payloadByte, h₂]

theorem State.payload?_of_le {s : State} (h : s.plen.toNat ≤ payloadSize) : s.payload? = some s.payload := by
  simp [State.payload?, h]

/-- `payload?` answers the payload, and only where `PLEN` is a length the buffer has (10_state.md R17). -/
theorem State.payload?_eq_some {s : State} {p : List Byte} (h : s.payload? = some p) :
    s.plen.toNat ≤ payloadSize ∧ p = s.payload := by
  unfold State.payload? at h
  split at h
  · exact ⟨‹_›, by simpa using h.symm⟩
  · cases h

/-- The payload field is 2048 bytes (41_frame.md R104). -/
theorem length_payloadField {p : List Byte} (h : p.length ≤ payloadSize) :
    (payloadField p).length = payloadSize := by
  simp [payloadField]; omega

/-- Every frame is 2056 bytes (41_frame.md R104). -/
theorem length_encodeFrame {p : List Byte} (h : p.length ≤ payloadSize) (t : Nat → Word) (seq : Half) :
    (encodeFrame t seq p).length = frameSize := by
  simp [encodeFrame, littleEndian, length_payloadField h, payloadSize, frameSize]

/-! The canonical form of each buffer, kept by every operation that writes one (20_memory.md R40). -/

/-- The built table is in canonical form. -/
theorem builtTable_wf : Memory.wf tableSize builtTable = true := Memory.wf_ofList _ (by simp)

theorem State.buildTable_wf (s : State) : Memory.wf tableSize s.buildTable.table = true := builtTable_wf

theorem State.ensureTable_wf {s : State} (h : Memory.wf tableSize s.table = true) :
    Memory.wf tableSize s.ensureTable.table = true := by
  unfold State.ensureTable
  split
  · exact h
  · exact builtTable_wf

/-- Storing a frame leaves `FB` in canonical form. -/
theorem State.storeFrame_wf (s : State) {p : List Byte} (h : p.length ≤ payloadSize) (t : Nat → Word) (seq : Half) :
    Memory.wf frameSize (s.storeFrame (encodeFrame t seq p)).fb = true :=
  Memory.wf_ofList _ (by rw [length_encodeFrame h])

/-- The buffers of the reset state, in which nothing is listed, are in canonical form. -/
theorem State.reset_buffers_wf :
    Memory.wf tableSize State.reset.table = true ∧ Memory.wf payloadSize State.reset.pb = true ∧
      Memory.wf frameSize State.reset.fb = true :=
  ⟨rfl, rfl, rfl⟩

end Sys2Proof.Machine
end

