-- ==== Sys2Proof/Laws/Encoding.lean ====
section
/-! SUPPORT. The three fields of a command word, taken apart and put together (30_encoding.md R65). -/

namespace Sys2Proof

@[simp] theorem opField_commandWord (op idx : Byte) (imm : Half) : opField (commandWord op idx imm) = op := by
  ext i hi
  simp only [opField, commandWord, BitVec.getElem_extractLsb', BitVec.getLsbD_append]
  rw [if_neg (by omega), if_neg (by omega), ← BitVec.getLsbD_eq_getElem]
  congr 1; omega

@[simp] theorem idxField_commandWord (op idx : Byte) (imm : Half) : idxField (commandWord op idx imm) = idx := by
  ext i hi
  simp only [idxField, commandWord, BitVec.getElem_extractLsb', BitVec.getLsbD_append]
  rw [if_neg (by omega), if_pos (by omega), ← BitVec.getLsbD_eq_getElem]
  congr 1; omega

@[simp] theorem immField_commandWord (op idx : Byte) (imm : Half) : immField (commandWord op idx imm) = imm := by
  ext i hi
  simp only [immField, commandWord, BitVec.getElem_extractLsb', BitVec.getLsbD_append]
  rw [if_pos (by omega), ← BitVec.getLsbD_eq_getElem]
  congr 1; omega

/-- A word is its three fields. -/
theorem commandWord_fields (w : Word) : commandWord (opField w) (idxField w) (immField w) = w := by
  apply BitVec.eq_of_getLsbD_eq
  intro i hi
  simp only [opField, idxField, immField, commandWord, BitVec.getLsbD_append, BitVec.getLsbD_extractLsb']
  split
  · simp_all
  · split
    · rw [show 16 + (i - 16) = i by omega]; simp; omega
    · rw [show 24 + (i - 16 - 8) = i by omega]; simp; omega

/-- A mask over `op` and `idx` drops `imm` (30_encoding.md R66). -/
theorem commandWord_and_upper (op idx : Byte) (imm : Half) :
    commandWord op idx imm &&& 0xFFFF0000#32 = commandWord op idx 0#16 := by
  have h : (op ++ idx ++ imm) &&& (BitVec.allOnes (8 + 8) ++ 0#16) = op ++ idx ++ 0#16 := by
    rw [BitVec.and_append, BitVec.and_allOnes, BitVec.and_zero]
  exact h

/-- A mask over `op` drops `idx` and `imm` (R66). -/
theorem commandWord_and_op (op idx : Byte) (imm : Half) :
    commandWord op idx imm &&& 0xFF000000#32 = commandWord op 0#8 0#16 := by
  have h : (op ++ idx ++ imm) &&& (BitVec.allOnes 8 ++ 0#8 ++ 0#16) = op ++ 0#8 ++ 0#16 := by
    rw [BitVec.and_append, BitVec.and_append, BitVec.and_allOnes, BitVec.and_zero, BitVec.and_zero]
  exact h

end Sys2Proof
end

