-- ==== Sys2Proof/Laws/Send.lean ====
section
/-! SUPPORT. What each step of a running `SEND` can do, said once (42_handshake.md R124). -/

namespace Sys2Proof.Machine

/-- Step 1: the line driver failed, or the settle delay is next (R125). -/
theorem sendAssertLine_next {s t : State} (h : sendAssertLine s = .next t) :
    (s.sigAnswer s.line .low = .fail ∧ t = (s.sigWrite s.line .low).finish .faulted .signalFault) ∨
    (s.sigAnswer s.line .low = .ok ∧ t = (s.sigWrite s.line .low).goTo .settle) := by
  unfold sendAssertLine levelAsserted at h
  injection h with h
  split at h <;> simp_all

/-- The settle delay (R126). -/
theorem sendSettle_next {s t : State} (h : sendSettle s = .next t) :
    t = ((s.delay s.settle).setState .transmitting).goTo .writeFrame := by
  unfold sendSettle at h
  injection h with h
  exact h.symm

/-- The frame was written in full exactly where the channel answered a count of 2056 or more (R127). -/
theorem frameAccepted_iff {w : WriteAnswer} : frameAccepted w = true ↔ ∃ n, frameSize ≤ n ∧ w = .count n := by
  cases w <;> simp [frameAccepted]

/-- Step 2: `FB` holds the frame; the write was cut short, or the deassert is next (R127). -/
theorem sendWriteFrame_next {s t : State} (h : sendWriteFrame s = .next t) :
    s.plen.toNat ≤ payloadSize ∧
    ∃ f, f = encodeFrame s.ensureTable.tableEntry s.seq s.payload ∧
      ((frameAccepted (s.ensureTable.writeAnswer f) = true ∧
          t = ((s.ensureTable.storeFrame f).chanWrite f).goTo .deassertLine) ∨
       (frameAccepted (s.ensureTable.writeAnswer f) = false ∧
          t = ((s.ensureTable.storeFrame f).chanWrite f).finish .faulted .shortWrite)) := by
  unfold sendWriteFrame at h
  dsimp only at h
  split at h
  · cases h
  · rename_i p hp
    obtain ⟨hle, rfl⟩ := State.payload?_eq_some hp
    injection h with h
    simp only [State.ensureTable_plen, State.ensureTable_payload, State.ensureTable_seq] at hle h
    refine ⟨hle, _, rfl, ?_⟩
    split at h
    · exact .inl ⟨‹_›, h.symm⟩
    · rename_i hw; exact .inr ⟨by simpa using hw, h.symm⟩

/-- Where `PLEN` is a length of the buffer, step 2 runs (R127). -/
theorem sendWriteFrame_eq {s : State} (h : s.plen.toNat ≤ payloadSize) {f : List Byte}
    (hf : f = encodeFrame s.ensureTable.tableEntry s.seq s.payload) :
    sendWriteFrame s =
      .next (if frameAccepted (s.ensureTable.writeAnswer f) then
          ((s.ensureTable.storeFrame f).chanWrite f).goTo .deassertLine
        else ((s.ensureTable.storeFrame f).chanWrite f).finish .faulted .shortWrite) := by
  subst hf
  unfold sendWriteFrame
  dsimp only
  rw [State.payload?_of_le (by simpa using h)]
  simp only [State.ensureTable_seq, State.ensureTable_payload]

/-- Step 3: the line driver failed, or polling is next (R128). -/
theorem sendDeassertLine_next {s t : State} (h : sendDeassertLine s = .next t) :
    (s.sigAnswer s.line .high = .fail ∧ t = (s.sigWrite s.line .high).finish .faulted .signalFault) ∨
    (s.sigAnswer s.line .high = .ok ∧
      t = ((s.sigWrite s.line .high).setState .awaitingAck).goTo .pollWrite) := by
  unfold sendDeassertLine levelDeasserted at h
  injection h with h
  split at h <;> simp_all

/-- Step 4, before an exchange: the bound is reached, the dummy write failed, or the read is next (R129, R131). -/
theorem sendPollWrite_next {s t : State} (h : sendPollWrite s = .next t) :
    (s.pollBoundReached = true ∧ t = s.finish .faulted .ackTimeout) ∨
    (s.pollBoundReached = false ∧ s.writeAnswer [dummyByte] ≠ .count 1 ∧
      t = (s.chanWrite [dummyByte]).finish .faulted .ackIo) ∨
    (s.pollBoundReached = false ∧ s.writeAnswer [dummyByte] = .count 1 ∧
      t = (s.chanWrite [dummyByte]).goTo .pollRead) := by
  unfold sendPollWrite at h
  injection h with h
  split at h
  · simp_all
  · split at h <;> simp_all

/-- The end of an exchange, by the class of its byte (R129, R130). -/
theorem State.exchanged_cases (s : State) (b : Byte) :
    (ackClass b = .ack ∧
      s.exchanged b = (s.countExchange b).finish .acked .ok) ∨
    (ackClass b = .nack ∧
      s.exchanged b = (s.countExchange b).finish .nacked .nack) ∨
    (ackClass b = .pending ∧
      s.exchanged b = (s.countExchange b).goTo .pollWrite) ∨
    (ackClass b = .reserved ∧
      s.exchanged b = (s.countExchange b).finish .faulted .badAck) := by
  unfold State.exchanged
  cases hb : ackClass b <;> simp

/-- Step 4, the read: it failed, or its byte ends the exchange (R129). -/
theorem sendPollRead_next {s t : State} (h : sendPollRead s = .next t) :
    (s.readAnswer = .error ∧ t = s.chanRead.finish .faulted .ackIo) ∨
    (∃ b, s.readAnswer = .byte b ∧ t = s.chanRead.exchanged b) := by
  unfold sendPollRead at h
  injection h with h
  split at h <;> simp_all

/-- The class of a byte, by its value (30_encoding.md R63, R69). -/
theorem ackClass_eq (b : Byte) :
    ackClass b =
      if b = 0x06#8 then .ack else if b = 0x15#8 then .nack
      else if b = 0x00#8 ∨ b = 0xFF#8 then .pending else .reserved := by
  revert b; decide

/-- The poll count goes up by one and saturates (10_state.md R21). -/
theorem toNat_pollSucc (n : Half) : (pollSucc n).toNat = min (n.toNat + 1) 0xFFFF := by
  unfold pollSucc
  split
  · subst n; rfl
  · have h₁ := n.isLt
    have h₂ : n.toNat ≠ 0xFFFF := fun h => ‹¬ n = 0xFFFF#16› (BitVec.eq_of_toNat_eq (by simpa using h))
    simp only [BitVec.toNat_add, BitVec.toNat_ofNat]
    omega

/-- When the bound is reached (42_handshake.md R131). -/
theorem State.pollBoundReached_iff (s : State) :
    s.pollBoundReached = true ↔ s.pollmax ≠ 0#16 ∧ s.pollcnt = s.pollmax := by
  simp [State.pollBoundReached]

end Sys2Proof.Machine
end

