-- ==== Sys2Proof/Laws/Exec.lean ====
section
/-! SUPPORT. What each command can do, and what a step can do, said once: an inversion lemma for each. -/

namespace Sys2Proof.Machine

theorem execTbld_next {s t : State} (h : execTbld s = .next t) : t = s.buildTable.respond .ok 0#32 := by
  injection h with h; exact h.symm

theorem execCinit_next {s t : State} (h : execCinit s = .next t) :
    t = (s.setCrcacc crcInit).respond .ok 0#32 := by
  injection h with h; exact h.symm

theorem execCbyte_next {b : Byte} {s t : State} (h : execCbyte b s = .next t) :
    t = (s.ensureTable.setCrcacc (crcStep s.ensureTable.tableEntry s.crcacc b)).respond .ok 0#32 := by
  injection h with h; rw [← h]; simp

theorem execCfin_next {s t : State} (h : execCfin s = .next t) :
    t = (s.setCrcr (s.crcacc ^^^ crcXorOut)).respond .ok (s.crcacc ^^^ crcXorOut) := by
  injection h with h; exact h.symm

theorem execCsum_next {s t : State} (h : execCsum s = .next t) :
    s.plen.toNat ≤ payloadSize ∧
    ∃ c, c = crc32 s.ensureTable.tableEntry s.payload ∧
      t = (s.ensureTable.setCrcr c).respond .ok c := by
  unfold execCsum at h
  dsimp only at h
  split at h
  · cases h
  · rename_i p hp
    obtain ⟨hle, rfl⟩ := State.payload?_eq_some hp
    injection h with h
    simp only [State.ensureTable_plen, State.ensureTable_payload] at hle h
    exact ⟨hle, _, rfl, h.symm⟩

/-- Where `PLEN` is a length of the buffer, `CSUM` runs (40_crc.md R88). -/
theorem execCsum_eq {s : State} (h : s.plen.toNat ≤ payloadSize) :
    execCsum s =
      .next ((s.ensureTable.setCrcr (crc32 s.ensureTable.tableEntry s.payload)).respond .ok
        (crc32 s.ensureTable.tableEntry s.payload)) := by
  unfold execCsum
  dsimp only
  rw [State.payload?_of_le (by simpa using h)]
  simp

theorem execTrd_next {i : Byte} {s t : State} (h : execTrd i s = .next t) :
    t = s.ensureTable.respond .ok (s.ensureTable.tableEntry i.toNat) := by
  injection h with h; exact h.symm

theorem execPrst_next {s t : State} (h : execPrst s = .next t) :
    t = { s with plen := 0#12 }.respond .ok 0#32 := by
  injection h with h; exact h.symm

theorem execPpush_next {b : Byte} {s t : State} (h : execPpush b s = .next t) :
    (s.plen.toNat < payloadSize ∧
      t = { s with pb := Cells.write s.plen.toNat b s.pb, plen := s.plen + 1#12 }.respond .ok 0#32) ∨
    (payloadSize ≤ s.plen.toNat ∧ t = s.raise .payloadOverflow) := by
  unfold execPpush at h
  split at h <;> injection h with h
  · exact .inl ⟨‹_›, h.symm⟩
  · exact .inr ⟨by omega, h.symm⟩

theorem execSeqinc_next {s t : State} (h : execSeqinc s = .next t) :
    t = { s with seq := s.seq + 1#16 }.respond .ok 0#32 := by
  injection h with h; exact h.symm

theorem execEnc_next {s t : State} (h : execEnc s = .next t) :
    s.plen.toNat ≤ payloadSize ∧
    t = (s.ensureTable.storeFrame (encodeFrame s.ensureTable.tableEntry s.seq s.payload)).respond .ok 0#32 := by
  unfold execEnc at h
  dsimp only at h
  split at h
  · cases h
  · rename_i p hp
    obtain ⟨hle, rfl⟩ := State.payload?_eq_some hp
    injection h with h
    simp only [State.ensureTable_plen, State.ensureTable_payload, State.ensureTable_seq] at hle h
    exact ⟨hle, h.symm⟩

/-- Where `PLEN` is a length of the buffer, `ENC` runs (41_frame.md R105). -/
theorem execEnc_eq {s : State} (h : s.plen.toNat ≤ payloadSize) :
    execEnc s =
      .next ((s.ensureTable.storeFrame (encodeFrame s.ensureTable.tableEntry s.seq s.payload)).respond .ok 0#32) := by
  unfold execEnc
  dsimp only
  rw [State.payload?_of_le (by simpa using h)]
  simp

theorem execFrd_next {a : Half} {s t : State} (h : execFrd a s = .next t) :
    (a.toNat < frameSize ∧ t = s.respond .ok ((s.frameByte a.toNat).setWidth 32)) ∨
    (frameSize ≤ a.toNat ∧ t = s.raise .operandRange) := by
  unfold execFrd at h
  split at h <;> injection h with h
  · exact .inl ⟨‹_›, h.symm⟩
  · exact .inr ⟨by omega, h.symm⟩

theorem execSigw_next {asserted : Bool} {s t : State} (h : execSigw asserted s = .next t) :
    ∃ level r, level = levelOf asserted ∧
      ((s.sigAnswer s.line level = .ok ∧ r = .ok) ∨ (s.sigAnswer s.line level = .fail ∧ r = .signalFault)) ∧
      t = ((s.sigWrite s.line level).setErr r.code).respond r 0#32 := by
  unfold execSigw at h
  injection h with h
  cases ha : s.sigAnswer s.line (levelOf asserted) <;> simp only [ha] at h
  · exact ⟨_, .ok, rfl, .inl ⟨ha, rfl⟩, h.symm⟩
  · exact ⟨_, .signalFault, rfl, .inr ⟨ha, rfl⟩, h.symm⟩

theorem execSend_next {s t : State} (h : execSend s = .next t) :
    t = { s with pollcnt := 0#16, state := .selecting, point := some .assertLine } := by
  injection h with h; exact h.symm

theorem execRreg_next {r : Byte} {s t : State} (h : execRreg r s = .next t) :
    (∃ x, Reg.ofIndex r = some x ∧ t = s.respond .ok (s.readReg x)) ∨
    (Reg.ofIndex r = none ∧ t = s.raise .badRegister) := by
  unfold execRreg at h
  split at h <;> injection h with h
  · exact .inr ⟨‹_›, h.symm⟩
  · exact .inl ⟨_, ‹_›, h.symm⟩

/-- Which indices name a writable register, and what writing one changes (43_access.md R161). -/
theorem State.writeReg_cases (s : State) (r : Byte) (v : Half) :
    (r = 0x02#8 ∧ s.writeReg r v = some { s with seq := v }) ∨
    (r = 0x08#8 ∧ s.writeReg r v = some { s with pollmax := v }) ∨
    (r = 0x09#8 ∧ s.writeReg r v = some { s with settle := v }) ∨
    (r = 0x0A#8 ∧ s.writeReg r v = some { s with line := v }) ∨
    (r ∉ [0x02#8, 0x08#8, 0x09#8, 0x0A#8] ∧ s.writeReg r v = none) := by
  unfold State.writeReg Reg.ofIndex
  split <;> rename_i h <;> split at h <;> simp_all

theorem execWreg_next {r : Byte} {v : Half} {s t : State} (h : execWreg r v s = .next t) :
    (∃ u, s.writeReg r v = some u ∧ t = u.respond .ok 0#32) ∨
    (s.writeReg r v = none ∧ t = s.raise .badRegister) := by
  unfold execWreg at h
  split at h <;> injection h with h
  · exact .inr ⟨‹_›, h.symm⟩
  · exact .inl ⟨_, ‹_›, h.symm⟩

/-- The word taken and the state with it taken (20_memory.md R44). -/
theorem State.takeCommand_cons {s : State} {w : Word} {rest : List Word} (h : s.cmds = w :: rest) :
    s.takeCommand = some (w, s.commandTaken) := by
  simp [State.takeCommand, h]

theorem State.commandTaken_eq {s : State} {w : Word} {rest : List Word} (h : s.cmds = w :: rest) :
    s.commandTaken = { s with cmds := rest } := by
  simp [State.commandTaken, h]

theorem State.takeCommand_nil {s : State} (h : s.cmds = []) : s.takeCommand = none := by
  simp [State.takeCommand, h]

/-- Everything a step can do: carry a running `SEND` on, wait, run a command, or answer an illegal word. -/
theorem step_cases {s t : State} (h : step s = .next t) :
    (∃ p, s.point = some p ∧ advanceSend p s = .next t) ∨
    (s.point = none ∧ s.cmds = [] ∧ t = s) ∨
    (∃ w rest i, s.point = none ∧ s.cmds = w :: rest ∧ decode w = .command i ∧
      exec i s.commandTaken = .next t) ∨
    (∃ w rest why, s.point = none ∧ s.cmds = w :: rest ∧ decode w = .illegal why ∧
      t = s.commandTaken.raise .illegalCommand) := by
  unfold step at h
  split at h
  · exact .inl ⟨_, ‹_›, h⟩
  · rename_i hp
    cases hc : s.cmds with
    | nil =>
      rw [State.takeCommand_nil hc] at h
      injection h with h
      exact .inr (.inl ⟨hp, rfl, h.symm⟩)
    | cons w rest =>
      rw [State.takeCommand_cons hc] at h
      dsimp only at h
      split at h
      · exact .inr (.inr (.inl ⟨w, rest, _, hp, rfl, ‹_›, h⟩))
      · injection h with h
        exact .inr (.inr (.inr ⟨w, rest, _, hp, rfl, ‹_›, h.symm⟩))

/-- A run of one step more: the step, then the rest. -/
theorem runSteps_unfold (k : Nat) (s : State) :
    runSteps (k + 1) s =
      match step s with
      | .next t => runSteps k t
      | .fault r => .fault r
      | .refused r => .refused r :=
  rfl

theorem runSteps_succ {s t : State} (k : Nat) (h : step s = .next t) : runSteps (k + 1) s = runSteps k t := by
  rw [runSteps_unfold, h]

@[simp] theorem runSteps_zero (s : State) : runSteps 0 s = .next s := rfl

/-- A run is its first part and then its second. -/
theorem runSteps_add {s t : State} (j k : Nat) (h : runSteps j s = .next t) :
    runSteps (j + k) s = runSteps k t := by
  induction j generalizing s with
  | zero => rw [runSteps_zero] at h; injection h with h; subst h; simp
  | succ j ih =>
    rw [show j + 1 + k = j + k + 1 by omega]
    rw [runSteps_unfold] at h ⊢
    split at h
    · exact ih h
    · cases h
    · cases h

end Sys2Proof.Machine
end

