-- ==== Sys2Proof/Laws/Invariant.lean ====
section
/-! SUPPORT. The invariant says nothing of what waits at the ports: other words, answers or responses keep it. -/

namespace Sys2Proof.Machine

/-- The invariant holds whatever the host has still to issue, the environment still to answer and the block has
responded. -/
theorem State.Inv.withPorts {s : State} (h : s.Inv) (cmds : List Word) (sigIn : List SigAnswer)
    (writeIn : List WriteAnswer) (readIn : List ReadAnswer) (responses : List Response) :
    ({ s with cmds := cmds, sigIn := sigIn, writeIn := writeIn, readIn := readIn, responses := responses } :
      State).Inv :=
  ⟨h.plen_le, h.err_le, h.table_wf, h.pb_wf, h.fb_wf, h.table_built, h.payload_written, h.frame_whole, h.phase,
    h.polls, h.sent, h.line_level⟩

end Sys2Proof.Machine
end

