-- ==== Sys2Proof/Laws/PerInstr.lean ====
section
/-! SUPPORT. Statements about every command, one lemma per constructor. Family `RowMatch`: a command's word selects the
row of the command table that carries its mnemonic (30_encoding.md R66). -/

namespace Sys2Proof.Laws.RowMatch

/-- The command's word selects the table row of its mnemonic. -/
def Statement (i : Instr) : Prop :=
  ∃ r ∈ commandTable, r.mnemonic = mnemonicOf i ∧ r.selects (encode i) = true

theorem tbld : Statement .tbld := ⟨⟨"TBLD", 0x10000000#32, 0xFFFFFFFF#32⟩, by decide⟩

theorem cinit : Statement .cinit := ⟨⟨"CINIT", 0x11000000#32, 0xFFFFFFFF#32⟩, by decide⟩

theorem cbyte (b : Byte) : Statement (.cbyte b) :=
  ⟨⟨"CBYTE", 0x12000000#32, 0xFFFFFF00#32⟩, by decide, rfl, by revert b; decide +kernel⟩

theorem cfin : Statement .cfin := ⟨⟨"CFIN", 0x13000000#32, 0xFFFFFFFF#32⟩, by decide⟩

theorem csum : Statement .csum := ⟨⟨"CSUM", 0x14000000#32, 0xFFFFFFFF#32⟩, by decide⟩

theorem trd (i : Byte) : Statement (.trd i) :=
  ⟨⟨"TRD", 0x15000000#32, 0xFFFFFF00#32⟩, by decide, rfl, by revert i; decide +kernel⟩

theorem prst : Statement .prst := ⟨⟨"PRST", 0x20000000#32, 0xFFFFFFFF#32⟩, by decide⟩

theorem ppush (b : Byte) : Statement (.ppush b) :=
  ⟨⟨"PPUSH", 0x21000000#32, 0xFFFFFF00#32⟩, by decide, rfl, by revert b; decide +kernel⟩

theorem seqinc : Statement .seqinc := ⟨⟨"SEQINC", 0x22000000#32, 0xFFFFFFFF#32⟩, by decide⟩

theorem enc : Statement .enc := ⟨⟨"ENC", 0x23000000#32, 0xFFFFFFFF#32⟩, by decide⟩

theorem frd (a : Half) : Statement (.frd a) :=
  ⟨⟨"FRD", 0x24000000#32, 0xFFFF0000#32⟩, by decide, rfl, by
    simp only [TableRow.selects, encode, commandWord_and_upper, beq_iff_eq]; decide⟩

theorem sigw (asserted : Bool) : Statement (.sigw asserted) :=
  ⟨⟨"SIGW", 0x30000000#32, 0xFFFFFFFE#32⟩, by decide, rfl, by revert asserted; decide⟩

theorem send : Statement .send := ⟨⟨"SEND", 0x31000000#32, 0xFFFFFFFF#32⟩, by decide⟩

theorem rreg (r : Byte) : Statement (.rreg r) :=
  ⟨⟨"RREG", 0x40000000#32, 0xFF00FFFF#32⟩, by decide, rfl, by revert r; decide +kernel⟩

theorem wreg (r : Byte) (v : Half) : Statement (.wreg r v) :=
  ⟨⟨"WREG", 0x41000000#32, 0xFF000000#32⟩, by decide, rfl, by
    simp only [TableRow.selects, encode, commandWord_and_op, beq_iff_eq]; decide⟩

end Sys2Proof.Laws.RowMatch
end

