-- ==== Sys2Proof/Tests/Slice0.lean ====
section
/-! SUPPORT. Tests: well-formedness, decoding of words written out from 30_encoding.md R65 to R67, vectors of
95_test_vectors.md (their names are given), and for each statement with hypotheses a state that meets them. -/

namespace Sys2Proof.Tests

open Machine

/-! ### Well-formedness (30_encoding.md R66, by-value checks) -/

theorem test_wf_frd_refuses_2056 : (Instr.frd 2056#16).wellFormed = false := by decide
theorem test_wf_frd_accepts_2055 : (Instr.frd 2055#16).wellFormed = true := by decide
theorem test_wf_rreg_refuses_0B : (Instr.rreg 0x0B#8).wellFormed = false := by decide
theorem test_wf_rreg_accepts_0A : (Instr.rreg 0x0A#8).wellFormed = true := by decide
theorem test_wf_wreg_refuses_status : (Instr.wreg 0x00#8 5#16).wellFormed = false := by decide
theorem test_wf_wreg_accepts_four :
    [0x02#8, 0x08#8, 0x09#8, 0x0A#8].all (fun r => (Instr.wreg r 0xFFFF#16).wellFormed) = true := by decide

/-! ### Decoding: `op`, `idx`, `imm` written out bit by bit -/

theorem test_decode_tbld : decode 0b00010000000000000000000000000000#32 = .command .tbld := by decide
theorem test_decode_cinit : decode 0b00010001000000000000000000000000#32 = .command .cinit := by decide
/-- `CBYTE 0x31` (section 3.3). -/
theorem test_decode_cbyte : decode 0b00010010000000000000000000110001#32 = .command (.cbyte 0x31#8) := by decide
theorem test_decode_cfin : decode 0b00010011000000000000000000000000#32 = .command .cfin := by decide
theorem test_decode_csum : decode 0b00010100000000000000000000000000#32 = .command .csum := by decide
/-- `TRD 128` (E6). -/
theorem test_decode_trd : decode 0b00010101000000000000000010000000#32 = .command (.trd 128#8) := by decide
theorem test_decode_prst : decode 0b00100000000000000000000000000000#32 = .command .prst := by decide
/-- `PPUSH 0xAB` (Q1). -/
theorem test_decode_ppush : decode 0b00100001000000000000000010101011#32 = .command (.ppush 0xAB#8) := by decide
theorem test_decode_seqinc : decode 0b00100010000000000000000000000000#32 = .command .seqinc := by decide
theorem test_decode_enc : decode 0b00100011000000000000000000000000#32 = .command .enc := by decide
/-- `FRD 2052` (Q10). -/
theorem test_decode_frd : decode 0b00100100000000000000100000000100#32 = .command (.frd 2052#16) := by decide
/-- `SIGW 1` and `SIGW 0` (W18, W17). -/
theorem test_decode_sigw : decode 0b00110000000000000000000000000001#32 = .command (.sigw true) ∧
    decode 0b00110000000000000000000000000000#32 = .command (.sigw false) := by decide
theorem test_decode_send : decode 0b00110001000000000000000000000000#32 = .command .send := by decide
/-- `RREG PLEN` (Q1). -/
theorem test_decode_rreg : decode 0b01000000000000110000000000000000#32 = .command (.rreg 0x03#8) := by decide
/-- `WREG LINE, 17` (W37). -/
theorem test_decode_wreg : decode 0b01000001000010100000000000010001#32 = .command (.wreg 0x0A#8 17#16) := by decide

/-- The illegal words of section 5: unlisted operation codes (W1, W2, W11 to W13, W24, W39). -/
theorem test_decode_unlisted_ops :
    [0x00000000#32, 0xFFFFFFFF#32, 0x16000000#32, 0x0F000000#32, 0x25000000#32, 0x32000000#32, 0x42000000#32].all
      (fun w => decide (decode w = .illegal (.unlistedOp (opField w)))) = true := by decide

/-- The illegal words of section 5: a bit that must be zero (W4, W5, W7, W8, W10, W16, W19, W20, W22, W23, W26,
W41). -/
theorem test_decode_nonzero_fields :
    [0x10000001#32, 0x10010000#32, 0x12000100#32, 0x13010000#32, 0x15000100#32, 0x24010000#32, 0x30000002#32,
      0x30000003#32, 0x31010000#32, 0x31000001#32, 0x40000001#32, 0x21000100#32].all
      (fun w => decide (decode w = .illegal (.nonzeroField (opField w)))) = true := by decide

/-- `FRD 2056` matches its row (W15): the by-value check is the meaning's. -/
theorem test_decode_frd_out_of_range : decodeTableWord 32 0x24000808 = some (.frd 2056#16) := by decide
theorem test_decodeTableWord_refuses : decodeTableWord 32 0x10000001 = none ∧ decodeTableWord 40 0x10000000 = none := by
  decide +kernel

/-! ### Checksum functions -/

/-- `Shift1` (section 2). -/
theorem test_shift1 : shift1 0x00000003#32 = 0xEDB88321#32 ∧ shift1 0x80000000#32 = 0x40000000#32 ∧
    shift1 0xFFFFFFFF#32 = 0x92477CDF#32 := by decide

/-- Table entries of T1, one of each row group. -/
theorem test_table_entries : crcEntry 1 = 0x77073096#32 ∧ crcEntry 128 = 0xEDB88320#32 ∧
    crcEntry 226 = 0x4E048354#32 ∧ crcEntry 255 = 0x2D02EF8D#32 := by decide

/-- `CrcStep`: K1, K8, K9. -/
theorem test_crcStep : crcStep crcEntry 0xFFFFFFFF#32 0x31#8 = 0x7C231048#32 ∧
    crcStep crcEntry 0x12345678#32 0x9A#8 = 0x4E16B702#32 ∧
    crcStep crcEntry 0x80000000#32 0x00#8 = 0x00800000#32 := by decide

/-- The bytes of "123456789". -/
def digits : List Byte := [0x31#8, 0x32#8, 0x33#8, 0x34#8, 0x35#8, 0x36#8, 0x37#8, 0x38#8, 0x39#8]

/-- The source's check value (V1, X8), and X1, X5. -/
theorem test_crc32 : crc32 crcEntry digits = 0xCBF43926#32 ∧ crc32 crcEntry [] = 0x00000000#32 ∧
    crc32 crcEntry [0x01#8, 0x02#8, 0x03#8] = 0x55BC801D#32 := by decide +kernel

/-! ### One step at a time -/

/-- The common start of section 6.3: reset, then `LINE` = 17 and `SETTLE` = 5. -/
def base : State := { State.reset with settle := 5#16, line := 17#16 }

/-- The same with a payload. -/
def loaded (bytes : List Byte) : State :=
  { base with pb := Cells.ofList bytes, plen := BitVec.ofNat 12 bytes.length }

/-- What a step leads to, seen through `f`. -/
def look {α : Type} (f : State → α) : Host.Outcome State Fault Refusal → Option α
  | .next s => some (f s)
  | .fault _ => none
  | .refused _ => none

/-- The step that runs a word, seen through `f`. -/
def after {α : Type} (s : State) (w : Nat) (f : State → α) : Option α := look f (step (s.withFetchWord 32 w))

/-- E8. -/
theorem test_tbld_answers : after base 0x10000000 (fun t => (t.responses, t.tv)) = some ([⟨0x00#8, 0#32⟩], true) := by
  decide +kernel
theorem test_tbld_entry : after base 0x10000000 (fun t => t.tableEntry 128) = some 0xEDB88320#32 := by decide +kernel

/-- Section 3.3, first row. -/
theorem test_cinit : after { base with crcacc := 0x340BC6D9#32 } 0x11000000 (fun t => (t.crcacc, t.responses)) =
    some (0xFFFFFFFF#32, [⟨0x00#8, 0#32⟩]) := by decide +kernel

/-- Section 3.3, `CBYTE 0x32`. -/
theorem test_cbyte : after { base with crcacc := 0x7C231048#32 } 0x12000032 (·.crcacc) = some 0xB0ACBB32#32 := by
  decide +kernel
/-- E2: the table is built on the way. -/
theorem test_cbyte_builds_table : after base 0x12000061 (·.tv) = some true := by decide +kernel

/-- Section 3.3, last row. -/
theorem test_cfin : after { base with crcacc := 0x340BC6D9#32 } 0x13000000
    (fun t => (t.crcacc, t.crcr, t.responses)) =
    some (0x340BC6D9#32, 0xCBF43926#32, [⟨0x00#8, 0xCBF43926#32⟩]) := by decide +kernel
/-- E1. -/
theorem test_cfin_empty : after base 0x13000000 (·.crcr) = some 0x00000000#32 := by decide +kernel

/-- E11. -/
theorem test_csum : after (loaded digits) 0x14000000 (fun t => (t.crcr, t.crcacc, t.responses)) =
    some (0xCBF43926#32, 0xFFFFFFFF#32, [⟨0x00#8, 0xCBF43926#32⟩]) := by decide +kernel
/-- E12: a stream in progress is not disturbed. -/
theorem test_csum_keeps_stream :
    after { loaded [0x01#8, 0x02#8, 0x03#8] with crcacc := 0x7C231048#32 } 0x14000000 (fun t => (t.crcr, t.crcacc)) =
      some (0x55BC801D#32, 0x7C231048#32) := by decide +kernel

/-- E5 and E7. -/
theorem test_trd : after base 0x15000001 (·.responses) = some [⟨0x00#8, 0x77073096#32⟩] := by decide +kernel
theorem test_trd_last : after base 0x150000FF (fun t => (t.responses, t.tv)) =
    some ([⟨0x00#8, 0x2D02EF8D#32⟩], true) := by decide +kernel

/-- Q2. -/
theorem test_prst : after (loaded [0x01#8, 0x02#8]) 0x20000000 (·.plen) = some 0#12 := by decide +kernel

/-- Q1. -/
theorem test_ppush : after base 0x210000AB (fun t => (t.plen, t.payloadByte 0, t.responses)) =
    some (1#12, 0xAB#8, [⟨0x00#8, 0#32⟩]) := by decide +kernel
/-- Q6: the buffer is full. -/
theorem test_ppush_full : after { base with plen := 2048#12 } 0x21000077 (fun t => (t.plen, t.responses)) =
    some (2048#12, [⟨0x12#8, 0#32⟩]) := by decide +kernel

/-- Q4 and Q3. -/
theorem test_seqinc : after base 0x22000000 (·.seq) = some 2#16 := by decide +kernel
theorem test_seqinc_wraps : after { base with seq := 0xFFFF#16 } 0x22000000 (fun t => (t.seq, t.responses)) =
    some (0#16, [⟨0x00#8, 0#32⟩]) := by decide +kernel

set_option maxRecDepth 100000 in
/-- F1 (Q10): the checksum of an empty chunk's frame covers the padding. -/
theorem test_enc_checksum : (encodeFrame crcEntry 1#16 []).drop 2052 = [0x7F#8, 0xD1#8, 0x55#8, 0x3F#8] := by
  decide +kernel
/-- F4: the sequence id is big-endian, and padding follows the payload. -/
theorem test_enc : after { loaded [0x01#8, 0x02#8, 0x03#8] with seq := 0x1234#16 } 0x23000000
    (fun t => [0, 1, 2, 3, 4, 5, 6, 7].map t.frameByte) =
    some [0x55#8, 0xAA#8, 0x12#8, 0x34#8, 0x01#8, 0x02#8, 0x03#8, 0xFF#8] := by decide +kernel

/-- W14, with a byte written there. -/
theorem test_frd_last : after { base with fb := [(2055, 0x3F#8)] } 0x24000807 (·.responses) =
    some [⟨0x00#8, 0x3F#32⟩] := by decide +kernel
/-- Q11. -/
theorem test_frd_range : after base 0x24000808 (·.responses) = some [⟨0x11#8, 0#32⟩] := by decide +kernel

/-- SG1. -/
theorem test_sigw : after { base with sigIn := [.ok] } 0x30000001 (fun t => (t.trace, t.err, t.responses)) =
    some ([.sigWrite 17#16 .low .ok], 0x00#8, [⟨0x00#8, 0#32⟩]) := by decide +kernel
/-- SG3. -/
theorem test_sigw_fail : after { base with sigIn := [.fail] } 0x30000001
    (fun t => (t.lineLevel 17#16, t.err, t.responses)) = some (.unknown, 0x01#8, [⟨0x01#8, 0#32⟩]) := by decide +kernel

/-- S2: 2055 bytes accepted are too few; the line stays low. -/
theorem test_send_short_write :
    look (fun t => (t.state, t.err, t.point, t.responses))
      (step { base with state := .transmitting, point := some .writeFrame, writeIn := [.count 2055] }) =
      some (.faulted, 0x02#8, none, [⟨0x02#8, 0#32⟩]) := by decide +kernel
/-- A2 to A4, A8, A9: the byte read decides, by its full value. -/
theorem test_send_ack_byte :
    [0xFF#8, 0x06#8, 0x15#8, 0x14#8, 0x16#8, 0xFE#8].map (fun b =>
      look (·.state) (step { base with state := .awaitingAck, point := some .pollRead, readIn := [.byte b] })) =
      [some .awaitingAck, some .acked, some .nacked, some .faulted, some .faulted, some .faulted] := by decide +kernel

/-- P3: `STATUS` with `TV` = 1 and `STATE` = Nacked. -/
theorem test_rreg_status : after { base with tv := true, state := .nacked } 0x40000000 (·.responses) =
    some [⟨0x00#8, 0x0000000D#32⟩] := by decide +kernel
/-- W28 and W29. -/
theorem test_rreg_bad : [0x400B0000, 0x40FF0000].map (fun w => after base w (·.responses)) =
    [some [⟨0x13#8, 0#32⟩], some [⟨0x13#8, 0#32⟩]] := by decide +kernel

/-- W35. -/
theorem test_wreg : after base 0x41080064 (fun t => (t.pollmax, t.responses)) =
    some (100#16, [⟨0x00#8, 0#32⟩]) := by decide +kernel
/-- W32 to W34, W38. -/
theorem test_wreg_bad :
    [0x41000005, 0x41030000, 0x41040000, 0x410B0000].map (fun w => after base w (·.responses)) =
      List.replicate 4 (some [⟨0x13#8, 0#32⟩]) := by decide +kernel

/-- W4: an illegal word answers `IllegalCommand`. -/
theorem test_illegal : after base 0x10000001 (fun t => (t.responses, t.tv)) = some ([⟨0x10#8, 0#32⟩], false) := by
  decide +kernel

/-! ### States that meet the hypotheses of the statements -/

/-- A block in use, at rest or at a point of a `SEND`, with the one-byte payload of F8. -/
def busy (p : Option SendPoint) : State :=
  { base with
    state := match p with
      | none => .idle
      | some q => q.packetState
    tv := true
    table := builtTable
    plen := 1#12
    pb := [(0, 0xAB#8)]
    fb := Cells.ofList (encodeFrame crcEntry 1#16 [0xAB#8])
    pollmax := 3#16
    point := p
    trace := match p with
      | none => []
      | some .assertLine => []
      | some .settle => [.sigWrite 17#16 .low .ok]
      | some .writeFrame => [.sigWrite 17#16 .low .ok]
      | some .deassertLine =>
        [.sigWrite 17#16 .low .ok, .chanWrite (encodeFrame crcEntry 1#16 [0xAB#8]) (.count 2056)]
      | some .pollWrite => [.sigWrite 17#16 .low .ok, .sigWrite 17#16 .high .ok]
      | some .pollRead => [.sigWrite 17#16 .low .ok, .sigWrite 17#16 .high .ok] }

/-- `busy` with words still to be issued and answers to be given. -/
def fed (p : Option SendPoint) (cmds : List Word) (sigIn : List SigAnswer) (writeIn : List WriteAnswer)
    (readIn : List ReadAnswer) : State :=
  { busy p with cmds := cmds, sigIn := sigIn, writeIn := writeIn, readIn := readIn, responses := [] }

theorem test_busy_inv (p : Option SendPoint) : (busy p).Inv where
  plen_le := by show 1 ≤ 2048; decide
  err_le := by show 0 ≤ 6; decide
  table_wf := builtTable_wf
  pb_wf := rfl
  fb_wf := Memory.wf_ofList _ (by rw [length_encodeFrame (by decide)])
  table_built := fun _ => rfl
  payload_written := by
    intro a ha
    have : a = 0 := by simpa [busy] using ha
    subst this; rfl
  frame_whole := .inr ⟨_, _, by decide, rfl⟩
  phase := by
    cases p with
    | none => exact .inl rfl
    | some q => rfl
  polls := by
    rcases p with _ | ⟨⟨⟩⟩ <;> first | exact trivial | rfl | (intro; decide)
  sent := by
    rcases p with _ | ⟨⟨⟩⟩ <;> first | exact trivial | rfl | exact ⟨rfl, 2056, by decide, rfl⟩
  line_level := by
    rcases p with _ | ⟨⟨⟩⟩ <;> first | exact trivial | rfl

theorem test_fed_inv (p : Option SendPoint) (cmds : List Word) (sigIn : List SigAnswer) (writeIn : List WriteAnswer)
    (readIn : List ReadAnswer) : (fed p cmds sigIn writeIn readIn).Inv :=
  (test_busy_inv p).withPorts cmds sigIn writeIn readIn []

/-- The hypothesis on the table that `CBYTE`, `CSUM`, `TRD`, `ENC` and step 2 of `SEND` share: before the table is
built, and after. -/
theorem test_hyp_table : (base.tv = true → base.table = builtTable) ∧ base.tv = false ∧
    ((busy none).tv = true → (busy none).table = builtTable) ∧ (busy none).tv = true :=
  ⟨fun h => (by cases h), rfl, fun _ => rfl, rfl⟩

theorem test_hyp_EncodeInvertsDecode : decode 0x410A0011#32 = .command (.wreg 0x0A#8 17#16) := by decide

theorem test_hyp_DecodeFollowsCommandTable : decode 0x30000001#32 = .command (.sigw true) ∧
    ∃ r ∈ commandTable, 0x30000001#32 &&& r.mask = r.pattern :=
  ⟨by decide, ⟨"SIGW", 0x30000000#32, 0xFFFFFFFE#32⟩, by decide, by decide⟩

theorem test_hyp_CommandTableRowsAreDisjoint : ∃ r ∈ commandTable, ∃ r' ∈ commandTable,
    0x30000001#32 &&& r.mask = r.pattern ∧ 0x30000001#32 &&& r'.mask = r'.pattern :=
  ⟨⟨"SIGW", 0x30000000#32, 0xFFFFFFFE#32⟩, by decide, ⟨"SIGW", 0x30000000#32, 0xFFFFFFFE#32⟩, by decide, by decide⟩

/-- W2, W7. -/
theorem test_hyp_IllegalWordRaisesIllegalCommand :
    (fed none [0xFFFFFFFF#32] [] [] []).point = none ∧ (fed none [0xFFFFFFFF#32] [] [] []).cmds = [0xFFFFFFFF#32] ∧
      (∀ r ∈ commandTable, 0xFFFFFFFF#32 &&& r.mask ≠ r.pattern) ∧
      ∀ r ∈ commandTable, 0x12000100#32 &&& r.mask ≠ r.pattern :=
  ⟨rfl, rfl, by decide, by decide⟩

theorem test_hyp_StepRunsDecodedCommand :
    (fed none [0x22000000#32] [] [] []).point = none ∧ (fed none [0x22000000#32] [] [] []).cmds = [0x22000000#32] ∧
      decode 0x22000000#32 = .command .seqinc :=
  ⟨rfl, rfl, by decide⟩

theorem test_hyp_StepWaitsForHost : (busy none).point = none ∧ (busy none).cmds = [] := ⟨rfl, rfl⟩

theorem test_hyp_RunningSendTakesNoWord : (fed (some .settle) [0x11000000#32] [] [] []).point ≠ none ∧
    ∃ t, step (fed (some .settle) [0x11000000#32] [] [] []) = .next t :=
  ⟨by decide, _, rfl⟩

/-- The lengths where the clauses of `CSUM`, `ENC`, `PPUSH` and `SEND` on `PLEN` meet. -/
theorem test_hyp_plen : (0#12).toNat < 2048 ∧ (2047#12).toNat < 2048 ∧ (2048#12).toNat ≤ 2048 ∧ 2048 ≤ (2048#12).toNat ∧
    2048 < (2049#12).toNat := by decide

theorem test_hyp_CbyteFoldsByte : ((busy none).tv = true → (busy none).table = builtTable) := fun _ => rfl

theorem test_hyp_CsumChecksumsPayload : (loaded digits).plen.toNat ≤ 2048 ∧
    ((loaded digits).tv = true → (loaded digits).table = builtTable) :=
  ⟨by decide, fun h => by cases h⟩

theorem test_hyp_StreamedChecksumIsCrc32 :
    ∃ s : State, s.Inv ∧ s.point = none ∧
      s.cmds = 0x11000000#32 :: (digits.map (fun b => 0x12000000#32 ||| b.setWidth 32) ++ [0x13000000#32]) :=
  ⟨fed none _ [] [] [], test_fed_inv none _ [] [] [], rfl, rfl⟩

/-- No payload, a short one and a full one; an index of the payload and one of the padding. -/
theorem test_hyp_EncodeLaysOutFrame : ([] : List Byte).length ≤ 2048 ∧ digits.length ≤ 2048 ∧
    (List.replicate 2048 0xAB#8).length ≤ 2048 ∧ 8 < digits.length ∧ digits.length ≤ 9 ∧ 9 < 2048 := by
  rw [List.length_replicate]; decide

/-- F2 and F9, and a full buffer. -/
theorem test_hyp_TrailingPadBytesAreInvisible : [0x01#8, 0x02#8, 0x03#8].length + 2 ≤ 2048 ∧
    [0x01#8, 0x02#8, 0x03#8].length + 2045 ≤ 2048 := by decide

theorem test_hyp_PpushAppendsOneByte : (busy none).plen.toNat < 2048 ∧ 0 ≠ (busy none).plen.toNat ∧
    2048 ≤ ({ base with plen := 2048#12 } : State).plen.toNat := by decide

theorem test_hyp_EncBuildsFrame : (busy none).plen.toNat ≤ 2048 ∧
    ((busy none).tv = true → (busy none).table = builtTable) ∧ 2055 < 2056 :=
  ⟨by decide, fun _ => rfl, by decide⟩

theorem test_hyp_FrdReadsFrameByte : (2055#16).toNat ≤ 2055 ∧ 2055 < (2056#16).toNat := by decide

theorem test_hyp_LoadedPayloadIsFramed :
    ∃ s : State, s.Inv ∧ s.point = none ∧ digits.length ≤ 2048 ∧
      s.cmds = 0x20000000#32 :: (digits.map (fun b => 0x21000000#32 ||| b.setWidth 32) ++ [0x23000000#32]) :=
  ⟨fed none _ [] [] [], test_fed_inv none _ [] [] [], rfl, by decide, rfl⟩

/-- A block that differs from `busy` in a byte above `PLEN`, in `FB`, in its registers and in its table. -/
def other : State :=
  { base with plen := 1#12, pb := [(0, 0xAB#8), (1, 0x77#8)], crcr := 1#32, err := 0x04#8, pollcnt := 7#16 }

theorem test_other_inv : other.Inv where
  plen_le := by decide
  err_le := by decide
  table_wf := rfl
  pb_wf := rfl
  fb_wf := rfl
  table_built := fun h => by cases h
  payload_written := by
    intro a ha
    have : a = 0 := by simpa [other] using ha
    subst this; rfl
  frame_whole := .inl rfl
  phase := .inl rfl
  polls := trivial
  sent := trivial
  line_level := trivial

theorem test_hyp_FrameDependsOnSeqAndPayloadOnly : (busy none).Inv ∧ other.Inv ∧ (busy none).seq = other.seq ∧
    (busy none).plen = other.plen ∧ ∀ a, a < (busy none).plen.toNat → (busy none).payloadByte a = other.payloadByte a := by
  refine ⟨test_busy_inv none, test_other_inv, rfl, rfl, fun a ha => ?_⟩
  have : a = 0 := by simpa [busy] using ha
  subst this; rfl

theorem test_hyp_PayloadLengthStops :
    2048 < ({ base with plen := 2049#12, point := some .writeFrame } : State).plen.toNat ∧
      ({ base with plen := 2049#12, point := some .writeFrame } : State).point = some .writeFrame := by decide

theorem test_hyp_SigwWritesLine : (fed none [] [.ok] [] []).sigAnswer 17#16 .low = .ok ∧
    (fed none [] [.ok] [] []).sigAnswer 17#16 .high = .ok ∧ (fed none [] [.fail] [] []).sigAnswer 17#16 .low = .fail ∧
    (fed none [] [.fail] [] []).sigAnswer 17#16 .high = .fail := ⟨rfl, rfl, rfl, rfl⟩

theorem test_hyp_SendAssertsLine : (fed (some .assertLine) [] [.ok] [] []).point = some .assertLine ∧
    (fed (some .assertLine) [] [.ok] [] []).sigAnswer 17#16 .low = .ok ∧
    (fed (some .assertLine) [] [.fail] [] []).sigAnswer 17#16 .low = .fail := ⟨rfl, rfl, rfl⟩

theorem test_hyp_SendWaitsSettleDelay : (busy (some .settle)).point = some .settle := rfl

/-- The counts where the two outcomes of step 2 meet: 2055 and 2056, and an error. -/
theorem test_hyp_SendWritesFrame (f : List Byte) : (fed (some .writeFrame) [] [] [.count 2056] []).point = some .writeFrame ∧
    (fed (some .writeFrame) [] [] [.count 2056] []).plen.toNat ≤ 2048 ∧
    ((fed (some .writeFrame) [] [] [.count 2056] []).tv = true →
      (fed (some .writeFrame) [] [] [.count 2056] []).table = builtTable) ∧
    (fed (some .writeFrame) [] [] [.count 2056] []).writeAnswer f = .count 2056 ∧
    (fed (some .writeFrame) [] [] [.count 2055] []).writeAnswer f = .count 2055 ∧
    (fed (some .writeFrame) [] [] [.error] []).writeAnswer f = .error :=
  ⟨rfl, by decide, fun _ => rfl, rfl, rfl, rfl⟩

theorem test_hyp_SendDeassertsLine : (fed (some .deassertLine) [] [.ok] [] []).point = some .deassertLine ∧
    (fed (some .deassertLine) [] [.ok] [] []).sigAnswer 17#16 .high = .ok ∧
    (fed (some .deassertLine) [] [.fail] [] []).sigAnswer 17#16 .high = .fail := ⟨rfl, rfl, rfl⟩

/-- The bound reached, not reached and not set; the answers 1, 0, 2 and an error (S10 to S13, B1). -/
theorem test_hyp_SendChecksBoundThenWritesDummy :
    (busy (some .pollWrite)).point = some .pollWrite ∧ (busy (some .pollWrite)).pollcnt ≠ (busy (some .pollWrite)).pollmax ∧
    (3#16 ≠ 0#16 ∧ ({ busy (some .pollWrite) with pollcnt := 3#16 } : State).pollcnt =
      ({ busy (some .pollWrite) with pollcnt := 3#16 } : State).pollmax) ∧
    (fed (some .pollWrite) [] [] [.count 1] []).writeAnswer [0x00#8] = .count 1 ∧
    [.count 0, .count 2, .error].map (fun w => (fed (some .pollWrite) [] [] [w] []).writeAnswer [0x00#8]) =
      [.count 0, .count 2, .error] :=
  ⟨rfl, by decide, ⟨by decide, rfl⟩, rfl, rfl⟩

/-- A failed read, and one byte of each class. -/
theorem test_hyp_SendReadsAndDecodesAck : (busy (some .pollRead)).point = some .pollRead ∧
    [.error, .byte 0x00#8, .byte 0xFF#8, .byte 0x06#8, .byte 0x15#8, .byte 0x16#8].map
        (fun r => (fed (some .pollRead) [] [] [] [r]).readAnswer) =
      [.error, .byte 0x00#8, .byte 0xFF#8, .byte 0x06#8, .byte 0x15#8, .byte 0x16#8] ∧
    0x16#8 ∉ [0x00#8, 0xFF#8, 0x06#8, 0x15#8] := ⟨rfl, rfl, by decide⟩

/-- At rest the invariant holds whatever `POLLMAX` is. -/
theorem test_pollmax_inv (m : Half) (cmds : List Word) (sigIn : List SigAnswer) (writeIn : List WriteAnswer)
    (readIn : List ReadAnswer) : ({ fed none cmds sigIn writeIn readIn with pollmax := m } : State).Inv :=
  let h := test_fed_inv none cmds sigIn writeIn readIn
  ⟨h.plen_le, h.err_le, h.table_wf, h.pb_wf, h.fb_wf, h.table_built, h.payload_written, h.frame_whole, h.phase,
    trivial, trivial, trivial⟩

/-- Two pending bytes and then ACK, NACK (P3) or a reserved byte, without a bound and with the bound 3. -/
theorem test_hyp_SendResolvesAtFirstAnswer :
    ∀ b ∈ [0x06#8, 0x15#8, 0x16#8], ∀ m ∈ [0#16, 3#16], ∃ s : State,
      s.Inv ∧ s.point = none ∧ s.cmds = [0x31000000#32] ∧ 2056 ≤ 2056 ∧
      (∀ p ∈ [0x00#8, 0xFF#8], p = 0x00#8 ∨ p = 0xFF#8) ∧ b ≠ 0x00#8 ∧ b ≠ 0xFF#8 ∧ s.pollmax = m ∧
      (s.pollmax = 0#16 ∨ [0x00#8, 0xFF#8].length < s.pollmax.toNat) ∧ s.sigIn = [.ok, .ok] ∧
      s.writeIn = .count 2056 :: (List.replicate ([0x00#8, 0xFF#8].length + 1) (.count 1) ++ []) ∧
      s.readIn = [0x00#8, 0xFF#8].map .byte ++ [.byte b] := by
  intro b hb m hm
  have hbound : m = 0#16 ∨ 2 < m.toNat := by
    rcases (by simpa using hm : m = 0#16 ∨ m = 3#16) with rfl | rfl <;> decide
  refine ⟨_, test_pollmax_inv m [0x31000000#32] [.ok, .ok] _ _, rfl, rfl, by decide, by decide, ?_, ?_, rfl, ?_, rfl,
    rfl, rfl⟩
  · revert b; decide
  · revert b; decide
  · exact hbound

/-- B3's answers. -/
theorem test_hyp_SendTimesOutAtBound :
    ∃ s : State, s.Inv ∧ s.point = none ∧ s.cmds = [0x31000000#32] ∧ 2056 ≤ 2056 ∧
      (∀ p ∈ [0x00#8, 0xFF#8, 0x00#8], p = 0x00#8 ∨ p = 0xFF#8) ∧ s.pollmax ≠ 0#16 ∧
      [0x00#8, 0xFF#8, 0x00#8].length = s.pollmax.toNat ∧ s.sigIn = [.ok, .ok] ∧
      s.writeIn = .count 2056 :: (List.replicate [0x00#8, 0xFF#8, 0x00#8].length (.count 1) ++ []) ∧
      s.readIn = [0x00#8, 0xFF#8, 0x00#8].map .byte ++ [] :=
  ⟨fed none _ [.ok, .ok] _ _, test_fed_inv none _ _ _ _, rfl, rfl, by decide, by decide, by decide, by decide, rfl, rfl,
    rfl⟩

theorem test_hyp_BoundedSendEnds : (fed none [0x31000000#32] [] [] []).Inv ∧
    (fed none [0x31000000#32] [] [] []).point = none ∧ (fed none [0x31000000#32] [] [] []).cmds = [0x31000000#32] ∧
    (fed none [0x31000000#32] [] [] []).pollmax ≠ 0#16 :=
  ⟨test_fed_inv none _ _ _ _, rfl, rfl, by decide⟩

theorem test_hyp_UnboundedPollGoesOn :
    ∃ s : State, s.point = some .pollWrite ∧ s.pollmax = 0#16 ∧ (∀ p ∈ [0x00#8, 0xFF#8], p = 0x00#8 ∨ p = 0xFF#8) ∧
      s.writeIn = List.replicate [0x00#8, 0xFF#8].length (.count 1) ++ [] ∧
      s.readIn = [0x00#8, 0xFF#8].map .byte ++ [] :=
  ⟨{ fed (some .pollWrite) [] [] _ _ with pollmax := 0#16 }, rfl, rfl, by decide, rfl, rfl⟩

/-- A `SEND` taken from the host and each point of one, but the end of a read (which stays inside for a pending
byte). -/
theorem test_hyp_SendLeavesInputsAlone : (fed none [0x31000000#32] [] [] []).current = some .send ∧
    (∃ t, step (fed none [0x31000000#32] [] [] []) = .next t) ∧
    ∀ p, (fed (some p) [] [.ok] [.count 1] [.byte 0x00#8]).current = some .send ∧
      ∃ t, step (fed (some p) [] [.ok] [.count 1] [.byte 0x00#8]) = .next t := by
  refine ⟨by decide, ⟨_, rfl⟩, fun p => ⟨rfl, ?_⟩⟩
  cases p <;> exact ⟨_, rfl⟩

/-- Every step of a `SEND` that can end it, ending it. -/
theorem test_hyp_LineLevelAfterSend :
    ∀ p, p ≠ .settle → (fed (some p) [] [.fail] [.count 0] [.error]).Inv ∧
      ∃ t, step (fed (some p) [] [.fail] [.count 0] [.error]) = .next t ∧ t.point = none := by
  intro p hp
  refine ⟨test_fed_inv _ _ _ _ _, ?_⟩
  cases p <;> first | exact absurd rfl hp | exact ⟨_, rfl, rfl⟩

/-- A step that ends a `SEND`, one that polls on, and one before the poll. -/
theorem test_hyp_SendEndsWithItsResult :
    (∃ t, step (fed (some .pollRead) [] [] [] [.byte 0x15#8]) = .next t ∧ t.point = none ∧ t.err = 0x04#8) ∧
    (∃ t, step (fed (some .pollRead) [] [] [] [.byte 0xFF#8]) = .next t ∧ t.point = some .pollWrite) ∧
    (∃ t, step (fed (some .assertLine) [] [.ok] [] []) = .next t ∧ t.point = some .settle) :=
  ⟨⟨_, rfl, rfl, rfl⟩, ⟨_, rfl, rfl⟩, _, rfl, rfl⟩

/-- A transition out of a rest state, and one out of each state of a packet. -/
theorem test_hyp_PacketStateFollowsItsTransitions :
    (∃ t, step (fed none [0x31000000#32] [] [] []) = .next t ∧ t.state = .selecting) ∧
    (∃ t, step (fed (some .settle) [] [] [] []) = .next t ∧ t.state = .transmitting) ∧
    (∃ t, step (fed (some .deassertLine) [] [.ok] [] []) = .next t ∧ t.state = .awaitingAck) ∧
    (∃ t, step (fed (some .pollWrite) [] [] [.count 0] []) = .next t ∧ t.state = .faulted) ∧
    ∃ t, step (fed (some .pollRead) [] [] [] [.byte 0x06#8]) = .next t ∧ t.state = .acked :=
  ⟨⟨_, rfl, rfl⟩, ⟨_, rfl, rfl⟩, ⟨_, rfl, rfl⟩, ⟨_, rfl, rfl⟩, _, rfl, rfl⟩

/-- The first, the second and the last register, and indices past the last. -/
theorem test_hyp_RregReadsRegister : ∀ p ∈ [(0x00#8, 0#32), (0x02#8, 1#32), (0x0A#8, 17#32)],
      p ∈ [(0x00#8, base.state.code.setWidth 32 ||| (if base.tv then 8#32 else 0#32)), (0x01#8, base.err.setWidth 32),
        (0x02#8, base.seq.setWidth 32), (0x03#8, base.plen.setWidth 32), (0x04#8, base.crcacc), (0x05#8, base.crcr),
        (0x06#8, base.ackb.setWidth 32), (0x07#8, base.pollcnt.setWidth 32), (0x08#8, base.pollmax.setWidth 32),
        (0x09#8, base.settle.setWidth 32), (0x0A#8, base.line.setWidth 32)] ∧
    0x0A < (0x0B#8).toNat ∧ 0x0A < (0xFF#8).toNat := by
  simp [base, State.reset, seqFirst, PacketState.code]

theorem test_hyp_WregWritesRegister :
    [0x00#8, 0x01#8, 0x03#8, 0x07#8, 0x0B#8, 0xFF#8].all
      (fun r => decide (r ∉ [0x02#8, 0x08#8, 0x09#8, 0x0A#8])) = true := by decide

theorem test_hyp_InvariantKeptByStep : (fed none [0x22000000#32] [] [] []).Inv ∧
    ∃ t, step (fed none [0x22000000#32] [] [] []) = .next t ∧ t.seq = 2#16 :=
  ⟨test_fed_inv none _ _ _ _, _, rfl, rfl⟩

theorem test_hyp_StepNeverStops : ∀ p, (fed p [] [] [] []).Inv := fun p => test_fed_inv p _ _ _ _

/-- A register, a buffer byte and the trace do change where their commands run. -/
theorem test_hyp_RegistersWrittenOnlyByTheirCommands :
    ∃ t, step (fed none [0x41080064#32] [] [] []) = .next t ∧ t.pollmax ≠ (fed none [0x41080064#32] [] [] []).pollmax :=
  ⟨_, rfl, by decide⟩

theorem test_hyp_BuffersWrittenOnlyByTheirCommands :
    ∃ t, step (fed none [0x21000077#32] [] [] []) = .next t ∧
      (fed none [0x21000077#32] [] [] []).current = some (.ppush 0x77#8) ∧
      0 ≠ (fed none [0x21000077#32] [] [] []).plen.toNat :=
  ⟨_, rfl, by decide, by decide⟩

/-- A table that is not built changes in `TBLD` and in a command that builds it first. -/
theorem test_hyp_BuffersWrittenOnlyByTheirCommands_table : [0x10000000#32, 0x12000061#32].all (fun w =>
    look (fun t => decide (t.tableEntry 0 ≠ ({ base with table := [(0, 1#32)] } : State).tableEntry 0))
      (step { base with table := [(0, 1#32)], cmds := [w] }) == some true) = true := by decide +kernel

theorem test_hyp_TraceGrowsOnlyBySigwAndSend :
    ∃ t, step (fed none [0x30000001#32] [.ok] [] []) = .next t ∧ t.trace = [.sigWrite 17#16 .low .ok] :=
  ⟨_, rfl, rfl⟩

/-- W1, Q11, Q6 and W28: each command fault. -/
theorem test_hyp_CommandFaultChangesNothing :
    (fed none [0x00000000#32] [] [] []).point = none ∧
    (∃ t, step (fed none [0x00000000#32] [] [] []) = .next t ∧ t.responses = [] ++ [⟨0x10#8, 0#32⟩]) ∧
    (∃ t, step (fed none [0x24000808#32] [] [] []) = .next t ∧ t.responses = [] ++ [⟨0x11#8, 0#32⟩]) ∧
    (∃ t, step { base with plen := 2048#12, cmds := [0x21000077#32] } = .next t ∧
      t.responses = [] ++ [⟨0x12#8, 0#32⟩]) ∧
    (∃ t, step (fed none [0x400B0000#32] [] [] []) = .next t ∧ t.responses = [] ++ [⟨0x13#8, 0#32⟩]) ∧
    0x10 ≤ (0x10#8).toNat :=
  ⟨rfl, ⟨_, rfl, rfl⟩, ⟨_, rfl, rfl⟩, ⟨_, rfl, rfl⟩, ⟨_, rfl, rfl⟩, by decide⟩

/-- A step into a `SEND`, one inside, and one that ends it. -/
theorem test_hyp_OneResponsePerCommand :
    (∃ t, step (fed none [0x31000000#32] [] [] []) = .next t ∧ t.point ≠ none) ∧
    (∃ t, step (fed (some .settle) [] [] [] []) = .next t ∧ t.point ≠ none) ∧
    ∃ t, step (fed (some .pollRead) [] [] [] [.byte 0x06#8]) = .next t ∧ t.point = none :=
  ⟨⟨_, rfl, by decide⟩, ⟨_, rfl, by decide⟩, _, rfl, rfl⟩

theorem test_hyp_ByValueChecksDecideTheFault :
    ∃ t, exec (.wreg 0x03#8 0#16) (busy none) = .next t ∧ t.responses = (busy none).responses ++ [⟨0x13#8, 0#32⟩] ∧
      (Instr.wreg 0x03#8 0#16).wellFormed = false :=
  ⟨_, rfl, rfl, by decide⟩

theorem test_hyp_StatusShowsRestStatesOnly : (busy none).Inv ∧ (busy none).point = none := ⟨test_busy_inv none, rfl⟩

end Sys2Proof.Tests
end

section
/-! PROOFS. The read of an exchange: a failed one, and how a byte that was read is counted, kept and decoded
(30_encoding.md R63, R69; 42_handshake.md R129, R130). -/

namespace Sys2Proof.Machine

/-- While a `SEND` runs, a step carries it on from its point (10_state.md R29). -/
theorem step_of_point {s : State} {p : SendPoint} (h : s.point = some p) : step s = advanceSend p s := by
  simp [step, h]

theorem step_pollRead_error {s : State} (hp : s.point = some .pollRead) (hr : s.readAnswer = .error) :
    step s = .next (s.chanRead.finish .faulted .ackIo) := by
  simp [step_of_point hp, advanceSend, sendPollRead, hr]

theorem step_pollRead_byte {s : State} {b : Byte} (hp : s.point = some .pollRead) (hr : s.readAnswer = .byte b) :
    step s = .next (s.chanRead.exchanged b) := by
  simp [step_of_point hp, advanceSend, sendPollRead, hr]

/-- The reserved bytes are those that 30_encoding.md R63 does not name. -/
theorem ackClass_eq_reserved {b : Byte} (h : b ∉ [0x00#8, 0xFF#8, 0x06#8, 0x15#8]) : ackClass b = .reserved := by
  simp only [List.mem_cons, List.not_mem_nil, or_false, not_or] at h
  obtain ⟨h00, hFF, hAck, hNack⟩ := h
  simp [ackClass_eq, h00, hFF, hAck, hNack]

/-- Whatever its class, the byte of a completed exchange is counted and kept (42_handshake.md R129); beyond that only
`STATE`, `ERR`, the point and the responses can change. -/
theorem State.exchanged_frame (s : State) (b : Byte) :
    s.exchanged b =
      { s.countExchange b with
        state := (s.exchanged b).state, err := (s.exchanged b).err, point := (s.exchanged b).point,
        responses := (s.exchanged b).responses } := by
  obtain ⟨-, h⟩ | ⟨-, h⟩ | ⟨-, h⟩ | ⟨-, h⟩ := s.exchanged_cases b <;> rw [h] <;> rfl

@[simp] theorem State.exchanged_ackb (s : State) (b : Byte) : (s.exchanged b).ackb = b := by
  rw [State.exchanged_frame]; rfl

@[simp] theorem State.exchanged_pollcnt (s : State) (b : Byte) : (s.exchanged b).pollcnt = pollSucc s.pollcnt := by
  rw [State.exchanged_frame]; rfl

@[simp] theorem State.exchanged_trace (s : State) (b : Byte) : (s.exchanged b).trace = s.trace := by
  rw [State.exchanged_frame]; rfl

@[simp] theorem State.exchanged_readIn (s : State) (b : Byte) : (s.exchanged b).readIn = s.readIn := by
  rw [State.exchanged_frame]; rfl

/-! How each class of byte ends an exchange (42_handshake.md R130). -/

theorem State.exchanged_of_pending {b : Byte} (s : State) (h : ackClass b = .pending) :
    s.exchanged b = (s.countExchange b).goTo .pollWrite := by
  simp [State.exchanged, h]

theorem State.exchanged_of_ack {b : Byte} (s : State) (h : ackClass b = .ack) :
    s.exchanged b = (s.countExchange b).finish .acked .ok := by
  simp [State.exchanged, h]

theorem State.exchanged_of_nack {b : Byte} (s : State) (h : ackClass b = .nack) :
    s.exchanged b = (s.countExchange b).finish .nacked .nack := by
  simp [State.exchanged, h]

theorem State.exchanged_of_reserved {b : Byte} (s : State) (h : ackClass b = .reserved) :
    s.exchanged b = (s.countExchange b).finish .faulted .badAck := by
  simp [State.exchanged, h]

/-- Settles O36: the read ends in `exchanged`, whose frame is the same for every byte; where it leads goes by the
byte's class. -/
theorem sendReadsAndDecodesAck : Obligations.SendReadsAndDecodesAck := by
  intro s hp
  constructor
  · intro hr
    rw [step_pollRead_error hp hr, ← hr]
    rfl
  intro b hr
  have hframe := s.chanRead.exchanged_frame b
  refine ⟨s.chanRead.exchanged b, step_pollRead_byte hp hr, by simp, by simp [toNat_pollSucc], by simp [hr], by simp,
    by simpa using hframe, ?pending, ?ack, ?nack, ?reserved⟩
  case pending =>
    intro hb
    have hclass : ackClass b = .pending := by obtain rfl | rfl := hb <;> rfl
    rw [State.exchanged_of_pending _ hclass]
    exact ⟨rfl, rfl, rfl, rfl⟩
  case ack =>
    rintro rfl
    rw [State.exchanged_of_ack _ rfl]
    exact ⟨rfl, rfl, rfl, rfl⟩
  case nack =>
    rintro rfl
    rw [State.exchanged_of_nack _ rfl]
    exact ⟨rfl, rfl, rfl, rfl⟩
  case reserved =>
    intro hb
    rw [State.exchanged_of_reserved _ (ackClass_eq_reserved hb)]
    exact ⟨rfl, rfl, rfl, rfl⟩

end Sys2Proof.Machine
end

section
/-! PROOFS. A command word with a byte operand, as the statements write it, and its decoding (30_encoding.md R65 to
R67). -/

namespace Sys2Proof

/-- The `op` code shifted to its place and the operand set into the lowest byte make the word of R65. -/
theorem shiftLeft_or_setWidth_eq_commandWord (op b : Byte) :
    op.setWidth 32 <<< 24 ||| b.setWidth 32 = commandWord op 0#8 (0#8 ++ b) := by
  apply BitVec.eq_of_toNat_eq
  have hop := op.isLt
  simp only [commandWord, BitVec.toNat_or, BitVec.toNat_shiftLeft, BitVec.toNat_setWidth, BitVec.toNat_append,
    BitVec.toNat_ofNat, Nat.shiftLeft_eq, Nat.zero_mod, Nat.zero_mul, Nat.or_zero, Nat.zero_or]
  congr 1 <;> omega

/-- `decodeByte` gives back the byte put into `imm[7:0]` (R67). -/
theorem decodeByte_commandWord (op b : Byte) (i : Byte → Instr) :
    decodeByte (commandWord op 0#8 (0#8 ++ b)) i = .command (i b) := by
  have hhigh : immHigh (0#8 ++ b) = 0#8 := BitVec.extractLsb'_append_eq_left
  have hlow : byteOperand (0#8 ++ b) = b := BitVec.extractLsb'_append_eq_right
  simp [decodeByte, hhigh, hlow]

/-- Where the code `op` stands for a command with a byte operand, `decode` reads the word of that code and a byte. -/
theorem decode_byteWord {op : Byte} {i : Byte → Instr} (h : ∀ w, opField w = op → decode w = decodeByte w i)
    (b : Byte) :
    decode (op.setWidth 32 <<< 24 ||| b.setWidth 32) = .command (i b) := by
  rw [shiftLeft_or_setWidth_eq_commandWord, h _ (opField_commandWord _ _ _), decodeByte_commandWord]

theorem decode_cbyteWord (b : Byte) : decode (0x12000000#32 ||| b.setWidth 32) = .command (.cbyte b) :=
  decode_byteWord (op := 0x12#8) (fun w h => by simp [decode, h]) b

theorem decode_trdWord (i : Byte) : decode (0x15000000#32 ||| i.setWidth 32) = .command (.trd i) :=
  decode_byteWord (op := 0x15#8) (fun w h => by simp [decode, h]) i

end Sys2Proof
end

section
/-! PROOFS. The commands of the Checksum Engine (40_crc.md R81, R85 to R89). Those that read the table are taken
through `EnsureTable`, after which every entry read is `Entry` (R82). -/

namespace Sys2Proof.Machine

/-- After `EnsureTable` the table is built, in every state whose `TV` tells the truth (10_state.md R26, R82). -/
theorem State.ensureTable_table_of_truthful {s : State} (h : s.tv = true → s.table = builtTable) :
    s.ensureTable.table = builtTable := by
  rw [State.ensureTable_eq h]

/-- Settles O16: where `PLEN` is a length of the buffer `CSUM` runs on the payload, with the entries of a built
table. -/
theorem csumChecksumsPayload : Obligations.CsumChecksumsPayload := by
  refine ⟨by decide, fun s hplen htv => ⟨_, rfl, ?_⟩⟩
  have hcrc : crc32 s.ensureTable.tableEntry s.payload = crc32 crcEntry s.payload :=
    crc32_of_built (State.ensureTable_table_of_truthful htv) s.payload
  change execCsum s = _
  rw [execCsum_eq hplen, hcrc, State.ensureTable_eq htv]
  rfl

/-- Settles O12: the build writes `T` and `TV`, and over a built table it writes what is there already. -/
theorem tbldBuildsTable : Obligations.TbldBuildsTable := by
  refine ⟨by decide, fun s => ⟨s.buildTable.respond .ok 0#32, rfl, rfl, ?entries, ?idempotent⟩⟩
  case entries => exact fun i hi => State.tableEntry_of_built rfl hi
  case idempotent =>
    intro htv htable
    have hbuild : s.buildTable = s := by
      rw [State.buildTable, ← htable, ← htv]
    rw [hbuild]
    rfl

/-- Settles O13: `CINIT` runs from every state, with no table needed. -/
theorem cinitStartsChecksum : Obligations.CinitStartsChecksum :=
  ⟨by decide, fun _ => rfl⟩

/-- Settles O14: after `EnsureTable` the byte step reads the built table. -/
theorem cbyteFoldsByte : Obligations.CbyteFoldsByte := by
  refine fun b => ⟨decode_cbyteWord b, fun s htv => ?_⟩
  have hstep : crcStep s.ensureTable.tableEntry s.ensureTable.crcacc b = crcStep crcEntry s.crcacc b := by
    rw [crcStep_of_built (State.ensureTable_table_of_truthful htv), State.ensureTable_crcacc]
  change Host.Outcome.next ((s.ensureTable.setCrcacc (crcStep s.ensureTable.tableEntry _ b)).respond .ok 0#32) = _
  rw [hstep, State.ensureTable_eq htv]
  rfl

/-- Settles O15: `CFIN` runs from every state and leaves `CRCACC` to further `CBYTE`s. -/
theorem cfinGivesChecksum : Obligations.CfinGivesChecksum :=
  ⟨by decide, fun _ => rfl⟩

/-- Settles O17: an index byte is below 256, and after `EnsureTable` each such entry is `Entry`. -/
theorem trdReadsTableEntry : Obligations.TrdReadsTableEntry := by
  refine fun i => ⟨decode_trdWord i, fun s htv => ?_⟩
  have hentry : s.ensureTable.tableEntry i.toNat = crcEntry i.toNat :=
    State.tableEntry_of_built (State.ensureTable_table_of_truthful htv) i.isLt
  change Host.Outcome.next (s.ensureTable.respond .ok (s.ensureTable.tableEntry i.toNat)) = _
  rw [hentry, State.ensureTable_eq htv]
  rfl

end Sys2Proof.Machine
end

section
/-! PROOFS. What the frame holds at each offset (41_frame.md R104; 30_encoding.md R60 to R62). -/

namespace Sys2Proof.Machine

/-- Below the payload's length the payload field is the payload. -/
theorem getElem?_payloadField_of_lt {p : List Byte} {i : Nat} (h : i < p.length) : (payloadField p)[i]? = p[i]? :=
  List.getElem?_append_left h

/-- From the payload's length on the payload field is padding (R104). -/
theorem getElem?_payloadField_of_le {p : List Byte} {i : Nat} (h : p.length ≤ i) (hi : i < payloadSize) :
    (payloadField p)[i]? = some padByte := by
  rw [payloadField, List.getElem?_append_right h, List.getElem?_replicate, if_pos (by omega)]

/-- After the four header bytes come the payload field and its checksum. -/
theorem drop_encodeFrame (t : Nat → Word) (seq : Half) (p : List Byte) :
    (encodeFrame t seq p).drop 4 = payloadField p ++ littleEndian (crc32 t (payloadField p)) :=
  rfl

/-- The part of the frame that the checksum covers is the payload field, padding included (R104). -/
theorem take_drop_encodeFrame {p : List Byte} (h : p.length ≤ payloadSize) (t : Nat → Word) (seq : Half) :
    ((encodeFrame t seq p).drop 4).take payloadSize = payloadField p := by
  rw [drop_encodeFrame, List.take_left' (length_payloadField h)]

/-- The payload field in the frame. -/
theorem getElem?_encodeFrame_payloadField {p : List Byte} (h : p.length ≤ payloadSize) (t : Nat → Word) (seq : Half)
    {i : Nat} (hi : i < payloadSize) : (encodeFrame t seq p)[4 + i]? = (payloadField p)[i]? := by
  rw [← List.getElem?_drop, drop_encodeFrame, List.getElem?_append_left (by rwa [length_payloadField h])]

/-- The checksum in the frame, least significant byte first (30_encoding.md R62). -/
theorem getElem?_encodeFrame_checksum {p : List Byte} (h : p.length ≤ payloadSize) (t : Nat → Word) (seq : Half)
    (k : Nat) :
    (encodeFrame t seq p)[4 + (payloadSize + k)]? = (littleEndian (crc32 t (payloadField p)))[k]? := by
  rw [← List.getElem?_drop, drop_encodeFrame, ← length_payloadField h, List.getElem?_append_right (by omega),
    Nat.add_sub_cancel_left]

/-- Settles O19: the header stands at fixed offsets, the payload field after it is the payload and then padding, and
the checksum is that of the field. -/
theorem encodeLaysOutFrame : Obligations.EncodeLaysOutFrame := by
  intro seq p hp
  have hchecksum := getElem?_encodeFrame_checksum hp crcEntry seq
  refine ⟨encodeFrame crcEntry seq p, rfl, length_encodeFrame hp _ _, rfl, rfl, rfl, rfl, ?payload, ?padding,
    crc32 crcEntry (payloadField p), ?covered, hchecksum 0, hchecksum 1, hchecksum 2, hchecksum 3⟩
  case payload =>
    intro i hi
    rw [getElem?_encodeFrame_payloadField hp _ _ (hi.trans_le hp), getElem?_payloadField_of_lt hi]
  case padding =>
    intro i hle hi
    rw [getElem?_encodeFrame_payloadField hp _ _ hi, getElem?_payloadField_of_le hle hi, padByte]
  case covered =>
    exact congrArg (crc32 crcEntry) (take_drop_encodeFrame hp crcEntry seq).symm

end Sys2Proof.Machine
end

section
/-! PROOFS. The commands of the Frame Encoder that start or number a packet, build its frame and read it back
(41_frame.md R101, R103, R105, R106). -/

namespace Sys2Proof

/-- The `op` code shifted to its place and a 16-bit operand set into `imm` make the word of 30_encoding.md R65. -/
theorem shiftLeft_or_imm_eq_commandWord (op : Byte) (imm : Half) :
    op.setWidth 32 <<< 24 ||| imm.setWidth 32 = commandWord op 0#8 imm := by
  apply BitVec.eq_of_toNat_eq
  have hop := op.isLt
  have himm := imm.isLt
  simp only [commandWord, BitVec.toNat_or, BitVec.toNat_shiftLeft, BitVec.toNat_setWidth, BitVec.toNat_append,
    BitVec.toNat_ofNat, Nat.shiftLeft_eq, Nat.zero_mod, Nat.or_zero]
  congr 1 <;> omega

/-- The offset of `FRD` is all of `imm` (30_encoding.md R67). -/
theorem decode_frdWord (a : Half) : decode (0x24000000#32 ||| a.setWidth 32) = .command (.frd a) := by
  have hword : 0x24000000#32 ||| a.setWidth 32 = commandWord 0x24#8 0#8 a := shiftLeft_or_imm_eq_commandWord 0x24#8 a
  simp [hword, decode, decodeFrd]

end Sys2Proof

namespace Sys2Proof.Machine

/-- `FB` reads back as the frame that was stored into it (41_frame.md R105). -/
@[simp] theorem State.storeFrame_frameByte (s : State) {f : List Byte} {a : Nat} (h : a < f.length) :
    (s.storeFrame f).frameByte a = f[a] := by
  simp [State.frameByte, h]

/-- `FRD` answers the byte where the offset is one of `FB` (R106). -/
theorem execFrd_of_lt (s : State) {a : Half} (h : a.toNat < frameSize) :
    execFrd a s = .next (s.respond .ok ((s.frameByte a.toNat).setWidth 32)) :=
  if_pos h

/-- `FRD` raises `OperandRange` where the offset is above `FB` (60_exceptions.md R174). -/
theorem execFrd_of_le (s : State) {a : Half} (h : frameSize ≤ a.toNat) :
    execFrd a s = .next (s.raise .operandRange) :=
  if_neg h.not_gt

/-- Settles O24: `ENC` stores the frame that `Encode` gives with the entries of a built table, and a stored frame reads
back byte by byte. -/
theorem encBuildsFrame : Obligations.EncBuildsFrame := by
  refine ⟨by decide, fun s hplen htv => ?_⟩
  have hframe : encodeFrame s.ensureTable.tableEntry s.seq s.payload = encodeFrame crcEntry s.seq s.payload :=
    encodeFrame_of_built (State.ensureTable_table_of_truthful htv) s.seq s.payload
  have hlen : (encodeFrame crcEntry s.seq s.payload).length = 2056 :=
    length_encodeFrame (s.length_payload.trans_le hplen) crcEntry s.seq
  refine ⟨_, execEnc_eq hplen, ?frame, ?bytes⟩
  case frame =>
    rw [State.ensureTable_eq htv]
    rfl
  case bytes =>
    intro a ha
    have hin : a < (encodeFrame crcEntry s.seq s.payload).length := ha.trans_eq hlen.symm
    rw [hframe, State.respond_frameByte, State.storeFrame_frameByte _ hin]
    exact List.getElem?_eq_getElem hin

/-- Settles O21: `PRST` writes `PLEN` alone and runs from every state. -/
theorem prstEmptiesPayload : Obligations.PrstEmptiesPayload :=
  ⟨by decide, fun _ => rfl⟩

/-- Settles O23: `SEQINC` writes `SEQ` alone, and the 16-bit sum wraps. -/
theorem seqincAdvancesSequence : Obligations.SeqincAdvancesSequence :=
  ⟨by decide, fun s => ⟨_, rfl, rfl, BitVec.toNat_add s.seq 1#16⟩⟩

/-- Settles O25: the by-value check of `FRD` separates the offsets of `FB` from those above it. -/
theorem frdReadsFrameByte : Obligations.FrdReadsFrameByte :=
  fun a => ⟨decode_frdWord a, fun s =>
    ⟨fun ha => execFrd_of_lt s (Nat.lt_succ_of_le ha), fun ha => execFrd_of_le s ha⟩⟩

end Sys2Proof.Machine
end

section
/-! PROOFS. A request and its answer: what each write adds to the state once its answer is known, and the level a
write of the signal line leaves (20_memory.md R50, R51, R54; 10_state.md R31). -/

namespace Sys2Proof.Machine

theorem State.sigWrite_of_answer {s : State} {l : Half} {v : Level} {a : SigAnswer} (h : s.sigAnswer l v = a) :
    s.sigWrite l v = { s with trace := s.trace ++ [.sigWrite l v a], sigIn := s.sigIn.tail } := by
  rw [State.sigWrite, h]

theorem State.chanWrite_of_answer {s : State} {bytes : List Byte} {w : WriteAnswer} (h : s.writeAnswer bytes = w) :
    s.chanWrite bytes = { s with trace := s.trace ++ [.chanWrite bytes w], writeIn := s.writeIn.tail } := by
  rw [State.chanWrite, h]

/-- The level of the line just written: unknown after `fail`, else the level of the request (10_state.md R31). -/
theorem State.sigWrite_lineLevel (s : State) (l : Half) (v : Level) :
    (s.sigWrite l v).lineLevel l = if s.sigAnswer l v = .fail then .unknown else if v = .low then .low else .high := by
  rw [State.lineLevel_append (s.sigWrite_trace l v)]
  cases s.sigAnswer l v <;> cases v <;> simp [levelAfter]

/-- Building the table first does not change what the channel answers (40_crc.md R82). -/
@[simp] theorem State.ensureTable_writeAnswer (s : State) : s.ensureTable.writeAnswer = s.writeAnswer := by
  funext bytes
  simp [State.writeAnswer]

@[simp] theorem State.storeFrame_writeAnswer (s : State) (f : List Byte) :
    (s.storeFrame f).writeAnswer = s.writeAnswer :=
  rfl

/-- A frame write falls short exactly where it fails or the count is below 2056 (42_handshake.md R127). -/
theorem frameAccepted_eq_false_iff {w : WriteAnswer} :
    frameAccepted w = false ↔ w = .error ∨ ∃ n, w = .count n ∧ n < frameSize := by
  cases w <;> simp [frameAccepted]

end Sys2Proof.Machine
end

section
/-! PROOFS. `SIGW`, and the steps of a running `SEND` that write the signal line or the frame (42_handshake.md R121,
R125, R127, R128). -/

namespace Sys2Proof.Machine

theorem execSigw_of_ok {s : State} {asserted : Bool} (h : s.sigAnswer s.line (levelOf asserted) = .ok) :
    execSigw asserted s =
      .next (((s.sigWrite s.line (levelOf asserted)).setErr Result.ok.code).respond .ok 0#32) := by
  simp [execSigw, h]

theorem execSigw_of_fail {s : State} {asserted : Bool} (h : s.sigAnswer s.line (levelOf asserted) = .fail) :
    execSigw asserted s =
      .next (((s.sigWrite s.line (levelOf asserted)).setErr Result.signalFault.code).respond .signalFault 0#32) := by
  simp [execSigw, h]

/-- Settles O29: `SIGW` makes its one write, and the answer is its result. -/
theorem sigwWritesLine : Obligations.SigwWritesLine := by
  refine ⟨by decide, by decide, fun s asserted => ⟨levelOf asserted, rfl, ?ok, ?fail, ?level⟩⟩
  case ok =>
    intro h
    change execSigw asserted s = _
    rw [execSigw_of_ok h, State.sigWrite_of_answer h]
    rfl
  case fail =>
    intro h
    change execSigw asserted s = _
    rw [execSigw_of_fail h, State.sigWrite_of_answer h]
    rfl
  case level =>
    intro t h
    obtain ⟨_, r, rfl, -, rfl⟩ := execSigw_next (show execSigw asserted s = .next t from h)
    have hlevel := s.sigWrite_lineLevel s.line (levelOf asserted)
    cases asserted <;> simpa [levelOf, levelAsserted, levelDeasserted] using hlevel

theorem step_assertLine_ok {s : State} (hp : s.point = some .assertLine) (h : s.sigAnswer s.line .low = .ok) :
    step s = .next ((s.sigWrite s.line .low).goTo .settle) := by
  simp [step_of_point hp, advanceSend, sendAssertLine, levelAsserted, h]

theorem step_assertLine_fail {s : State} (hp : s.point = some .assertLine) (h : s.sigAnswer s.line .low = .fail) :
    step s = .next ((s.sigWrite s.line .low).finish .faulted .signalFault) := by
  simp [step_of_point hp, advanceSend, sendAssertLine, levelAsserted, h]

/-- Settles O31: the answer to the assert decides, and either way the line was written last. -/
theorem sendAssertsLine : Obligations.SendAssertsLine := by
  refine fun s hp => ⟨?ok, ?fail, ?level⟩
  case ok =>
    intro h
    rw [step_assertLine_ok hp h, State.sigWrite_of_answer h]
    rfl
  case fail =>
    intro h
    rw [step_assertLine_fail hp h, State.sigWrite_of_answer h]
    rfl
  case level =>
    intro t h
    rw [step_of_point hp] at h
    obtain ⟨-, rfl⟩ | ⟨-, rfl⟩ := sendAssertLine_next h <;> exact s.sigWrite_lineLevel s.line .low

theorem step_deassertLine_ok {s : State} (hp : s.point = some .deassertLine) (h : s.sigAnswer s.line .high = .ok) :
    step s = .next (((s.sigWrite s.line .high).setState .awaitingAck).goTo .pollWrite) := by
  simp [step_of_point hp, advanceSend, sendDeassertLine, levelDeasserted, h]

theorem step_deassertLine_fail {s : State} (hp : s.point = some .deassertLine)
    (h : s.sigAnswer s.line .high = .fail) :
    step s = .next ((s.sigWrite s.line .high).finish .faulted .signalFault) := by
  simp [step_of_point hp, advanceSend, sendDeassertLine, levelDeasserted, h]

/-- Settles O34: the answer to the deassert decides between polling and `SignalFault`. -/
theorem sendDeassertsLine : Obligations.SendDeassertsLine := by
  refine fun s hp => ⟨?ok, ?fail⟩
  case ok =>
    intro h
    rw [step_deassertLine_ok hp h, State.sigWrite_of_answer h]
    rfl
  case fail =>
    intro h
    rw [step_deassertLine_fail hp h, State.sigWrite_of_answer h]
    rfl

/-- Step 2 where `PLEN` is a length of the buffer and `TV` tells the truth: the table stands built, and the frame made
with `Entry` is stored and offered (40_crc.md R82, 42_handshake.md R127). -/
theorem step_writeFrame {s : State} {f : List Byte} {w : WriteAnswer} (hp : s.point = some .writeFrame)
    (hplen : s.plen.toNat ≤ payloadSize) (htv : s.tv = true → s.table = builtTable)
    (hf : f = encodeFrame crcEntry s.seq s.payload) (hw : s.writeAnswer f = w) :
    step s =
      .next (if frameAccepted w then ((s.ensureTable.storeFrame f).chanWrite f).goTo .deassertLine
        else ((s.ensureTable.storeFrame f).chanWrite f).finish .faulted .shortWrite) := by
  have hframe : f = encodeFrame s.ensureTable.tableEntry s.seq s.payload :=
    hf.trans (encodeFrame_of_built (State.ensureTable_table_of_truthful htv) s.seq s.payload).symm
  rw [step_of_point hp]
  change sendWriteFrame s = _
  rw [sendWriteFrame_eq hplen hframe, State.ensureTable_writeAnswer, hw]

/-- What step 2 has stored, written and used up when the channel has answered (R127). -/
theorem State.frameWritten_eq {s : State} {f : List Byte} {w : WriteAnswer}
    (htv : s.tv = true → s.table = builtTable) (hw : s.writeAnswer f = w) :
    (s.ensureTable.storeFrame f).chanWrite f =
      { s with
        table := builtTable, tv := true, fb := Cells.ofList f, trace := s.trace ++ [.chanWrite f w],
        writeIn := s.writeIn.tail } := by
  rw [State.ensureTable_eq htv]
  exact State.chanWrite_of_answer hw

/-- Settles O33: the frame is that of `Entry`, and `frameAccepted` separates the answers that continue from those that
end with `ShortWrite`. -/
theorem sendWritesFrame : Obligations.SendWritesFrame := by
  refine fun s hp hplen htv => ⟨encodeFrame crcEntry s.seq s.payload, rfl, ?full, ?short⟩
  case full =>
    intro n hw hn
    have hacc : frameAccepted (.count n) = true := frameAccepted_iff.mpr ⟨n, hn, rfl⟩
    rw [step_writeFrame hp hplen htv rfl hw, if_pos hacc, State.frameWritten_eq htv hw]
    rfl
  case short =>
    intro w hw hshort
    have hacc : frameAccepted w = false := frameAccepted_eq_false_iff.mpr hshort
    rw [step_writeFrame hp hplen htv rfl hw, if_neg (by simp [hacc]), State.frameWritten_eq htv hw]
    rfl

end Sys2Proof.Machine
end

section
/-! PROOFS. How a step of a running `SEND` leaves the packet: it goes on, or it ends with its result
(42_handshake.md R124, R132). -/

namespace Sys2Proof.Machine

/-- The packet goes on: `STATE` is the one of the next point, and neither `ERR` nor the host has got a result
(42_handshake.md R122, R132). -/
def State.PacketGoesOn (s t : State) : Prop :=
  (∃ q, t.point = some q ∧ t.state = q.packetState) ∧ t.err = s.err ∧ t.responses = s.responses

/-- The packet state that a result ends a `SEND` with; a command fault ends none (R123, R132). -/
def Result.finalState : Result → Option PacketState
  | .ok => some .acked
  | .nack => some .nacked
  | .signalFault | .shortWrite | .ackIo | .ackTimeout | .badAck => some .faulted
  | .illegalCommand | .operandRange | .payloadOverflow | .badRegister => none

/-- The packet has ended: its state and result belong together, and `ERR` and the response say the result (R132). -/
def State.PacketEnds (s t : State) : Prop :=
  t.point = none ∧
    ∃ r : Result, r.finalState = some t.state ∧ t.err = r.code ∧ t.responses = s.responses ++ [⟨r.code, 0#32⟩]

theorem State.packetGoesOn_goTo {s u : State} {q : SendPoint} (hstate : u.state = q.packetState)
    (herr : u.err = s.err) (hresp : u.responses = s.responses) : s.PacketGoesOn (u.goTo q) :=
  ⟨⟨q, rfl, hstate⟩, herr, hresp⟩

theorem State.packetEnds_finish {s u : State} {st : PacketState} {r : Result} (hresp : u.responses = s.responses)
    (hend : r.finalState = some st) : s.PacketEnds (u.finish st r) :=
  ⟨rfl, r, hend, rfl, by rw [State.finish_responses, hresp]⟩

/-- While a `SEND` runs, `STATE` is the one of the point it stands at (10_state.md R29, 42_handshake.md R122). -/
theorem State.Inv.state_of_point {s : State} {p : SendPoint} (h : s.Inv) (hp : s.point = some p) :
    s.state = p.packetState := by
  simpa [State.phaseOk, hp] using h.phase

/-- A completed exchange ends the packet unless its byte is pending, and then the next exchange is due (R129, R130). -/
theorem State.exchanged_outcome {s u : State} (b : Byte) (hstate : u.state = .awaitingAck) (herr : u.err = s.err)
    (hresp : u.responses = s.responses) : s.PacketGoesOn (u.exchanged b) ∨ s.PacketEnds (u.exchanged b) := by
  obtain ⟨-, h⟩ | ⟨-, h⟩ | ⟨-, h⟩ | ⟨-, h⟩ := u.exchanged_cases b <;> rw [h]
  · exact .inr (packetEnds_finish hresp rfl)
  · exact .inr (packetEnds_finish hresp rfl)
  · exact .inl (packetGoesOn_goTo hstate herr hresp)
  · exact .inr (packetEnds_finish hresp rfl)

/-- A step of a running `SEND` carries the packet on or ends it, and there is no third way (R124). -/
theorem advanceSend_outcome {s t : State} {p : SendPoint} (hstate : s.state = p.packetState)
    (h : advanceSend p s = .next t) : s.PacketGoesOn t ∨ s.PacketEnds t := by
  cases p with
  | assertLine =>
    obtain ⟨-, rfl⟩ | ⟨-, rfl⟩ := sendAssertLine_next h
    · exact .inr (State.packetEnds_finish rfl rfl)
    · exact .inl (State.packetGoesOn_goTo hstate rfl rfl)
  | settle =>
    obtain rfl := sendSettle_next h
    exact .inl (State.packetGoesOn_goTo rfl rfl rfl)
  | writeFrame =>
    obtain ⟨-, f, -, ⟨-, rfl⟩ | ⟨-, rfl⟩⟩ := sendWriteFrame_next h
    · exact .inl (State.packetGoesOn_goTo (s.ensureTable_state.trans hstate) (by simp) (by simp))
    · exact .inr (State.packetEnds_finish (by simp) rfl)
  | deassertLine =>
    obtain ⟨-, rfl⟩ | ⟨-, rfl⟩ := sendDeassertLine_next h
    · exact .inr (State.packetEnds_finish rfl rfl)
    · exact .inl (State.packetGoesOn_goTo rfl rfl rfl)
  | pollWrite =>
    obtain ⟨-, rfl⟩ | ⟨-, -, rfl⟩ | ⟨-, -, rfl⟩ := sendPollWrite_next h
    · exact .inr (State.packetEnds_finish rfl rfl)
    · exact .inr (State.packetEnds_finish rfl rfl)
    · exact .inl (State.packetGoesOn_goTo hstate rfl rfl)
  | pollRead =>
    obtain ⟨-, rfl⟩ | ⟨b, -, rfl⟩ := sendPollRead_next h
    · exact .inr (State.packetEnds_finish rfl rfl)
    · exact State.exchanged_outcome b hstate rfl rfl

/-- The final states by the code of the result, as R132 lists them. -/
theorem Result.code_of_finalState {st : PacketState} {r : Result} (h : r.finalState = some st) :
    (st = .acked ∧ r.code = 0x00#8) ∨ (st = .nacked ∧ r.code = 0x04#8) ∨
      (st = .faulted ∧ r.code ∈ [0x01#8, 0x02#8, 0x03#8, 0x05#8, 0x06#8]) := by
  cases r <;> simp only [Result.finalState, Option.some.injEq, reduceCtorEq] at h <;> subst h <;> decide

/-- Settles O41: a step that carries the packet on has no result yet, and one that ends it leaves no point. -/
theorem sendEndsWithItsResult : Obligations.SendEndsWithItsResult := by
  intro s t p hinv hp hstep
  rw [step_of_point hp] at hstep
  obtain ⟨⟨q, hq, hstate⟩, herr, hresp⟩ | ⟨hnone, r, hend, herr, hresp⟩ :=
    advanceSend_outcome (hinv.state_of_point hp) hstep
  · refine ⟨fun _ => ⟨herr, hresp⟩, fun hpoll => ?_, fun h => by simp [hq] at h⟩
    rw [hq] at hpoll
    rw [hstate]
    obtain h | h := hpoll <;> injection h with h <;> rw [h] <;> rfl
  · refine ⟨fun h => absurd hnone h, fun h => by simp [hnone] at h, fun _ => ?_⟩
    rw [herr]
    exact ⟨hresp, Result.code_of_finalState hend⟩

end Sys2Proof.Machine
end

section
/-! PROOFS. Which steps change `STATE`, and the transition each of them takes (42_handshake.md R122, R123). -/

namespace Sys2Proof.Machine

/-- Between commands `STATE` is a rest state (10_state.md R14). -/
theorem State.Inv.state_at_rest {s : State} (h : s.Inv) (hp : s.point = none) :
    s.state ∈ [.idle, .acked, .nacked, .faulted] := by
  have hphase := h.phase
  simp only [State.phaseOk, hp] at hphase
  obtain h | ⟨h, -⟩ | ⟨h, -⟩ | h := hphase <;> simp [h]

/-- No writable register is `STATUS` (43_access.md R161). -/
theorem State.writeReg_state {s u : State} {r : Byte} {v : Half} (h : s.writeReg r v = some u) :
    u.state = s.state := by
  obtain ⟨-, hw⟩ | ⟨-, hw⟩ | ⟨-, hw⟩ | ⟨-, hw⟩ | ⟨-, hw⟩ := s.writeReg_cases r v <;> cases hw.symm.trans h <;> rfl

/-- Every command but `SEND` leaves `STATE` as it is (43_access.md R162). -/
theorem exec_state_of_ne_send {i : Instr} {s t : State} (hi : i ≠ .send) (h : exec i s = .next t) :
    t.state = s.state := by
  cases i with
  | tbld => rw [execTbld_next h]; rfl
  | cinit => rw [execCinit_next h]; rfl
  | cbyte b => rw [execCbyte_next h]; simp
  | cfin => rw [execCfin_next h]; rfl
  | csum => obtain ⟨-, c, -, rfl⟩ := execCsum_next h; simp
  | trd k => rw [execTrd_next h]; simp
  | prst => rw [execPrst_next h]; rfl
  | ppush b => obtain ⟨-, rfl⟩ | ⟨-, rfl⟩ := execPpush_next h <;> rfl
  | seqinc => rw [execSeqinc_next h]; rfl
  | enc => obtain ⟨-, rfl⟩ := execEnc_next h; simp
  | frd a => obtain ⟨-, rfl⟩ | ⟨-, rfl⟩ := execFrd_next h <;> rfl
  | sigw asserted => obtain ⟨_, r, -, -, rfl⟩ := execSigw_next h; rfl
  | send => exact absurd rfl hi
  | rreg r => obtain ⟨x, -, rfl⟩ | ⟨-, rfl⟩ := execRreg_next h <;> rfl
  | wreg r v =>
    obtain ⟨u, hu, rfl⟩ | ⟨-, rfl⟩ := execWreg_next h
    · rw [State.respond_state, State.writeReg_state hu]
    · rfl

/-- A step that changes `STATE` starts a `SEND` or carries one on (42_handshake.md R123). -/
theorem step_changing_state {s t : State} (h : step s = .next t) (hne : t.state ≠ s.state) :
    s.current = some .send ∧
      ((s.point = none ∧ t.state = .selecting ∧ t.trace = s.trace) ∨
       ∃ p, s.point = some p ∧ advanceSend p s = .next t) := by
  obtain ⟨p, hp, hadv⟩ | ⟨-, -, rfl⟩ | ⟨w, rest, i, hp, hcmds, hdec, hexec⟩ | ⟨w, rest, why, -, -, -, rfl⟩ :=
    step_cases h
  · exact ⟨by simp [State.current, hp], .inr ⟨p, hp, hadv⟩⟩
  · exact absurd rfl hne
  · obtain rfl : i = .send := by
      by_contra hi
      exact hne ((exec_state_of_ne_send hi hexec).trans s.commandTaken_state)
    rw [execSend_next hexec]
    exact ⟨by simp [State.current, hp, hcmds, hdec], .inl ⟨hp, rfl, rfl⟩⟩
  · exact absurd rfl hne

/-- Before step 3 the last event is the write in full of a frame of 2056 bytes (42_handshake.md R123, R127). -/
theorem State.Inv.frame_write_last {s : State} (h : s.Inv) (hp : s.point = some .deassertLine) :
    ∃ (f : List Byte) (n : Nat), f.length = 2056 ∧ 2056 ≤ n ∧ s.trace.getLast? = some (.chanWrite f (.count n)) := by
  have hsent := h.sent
  simp only [State.sentOk, hp] at hsent
  obtain ⟨-, n, hn, hlast⟩ := hsent
  exact ⟨_, n, length_encodeFrame (s.length_payload.trans_le h.plen_le) crcEntry s.seq, hn, hlast⟩

/-- Before the settle delay the line is low (10_state.md R31, 42_handshake.md R134). -/
theorem State.Inv.line_low_before_settle {s : State} (h : s.Inv) (hp : s.point = some .settle) :
    s.lineLevel s.line = .low := by
  simpa [State.lineOk, hp] using h.line_level

theorem ackClass_eq_ack_iff {b : Byte} : ackClass b = .ack ↔ b = 0x06#8 := by
  revert b; decide

theorem ackClass_eq_nack_iff {b : Byte} : ackClass b = .nack ↔ b = 0x15#8 := by
  revert b; decide

theorem ackClass_eq_reserved_iff {b : Byte} : ackClass b = .reserved ↔ b ∉ [0x00#8, 0xFF#8, 0x06#8, 0x15#8] := by
  revert b; decide

/-- Settles O42: outside a `SEND` only its start changes `STATE`; inside, the point gives the state before the step, and
the answer to the point's request the row of R123: of the rows listed, the two states and the result leave that one. -/
theorem packetStateFollowsItsTransitions : Obligations.PacketStateFollowsItsTransitions := by
  intro s t hinv hstep hne
  obtain ⟨hcur, ⟨hp, hsel, htrace⟩ | ⟨p, hp, hadv⟩⟩ := step_changing_state hstep hne
  · exact ⟨hcur, .inl ⟨hinv.state_at_rest hp, hsel, htrace⟩⟩
  refine ⟨hcur, ?_⟩
  cases p with
  | assertLine =>
    have hs : s.state = .selecting := hinv.state_of_point hp
    obtain ⟨hfail, rfl⟩ | ⟨-, rfl⟩ := sendAssertLine_next hadv
    · simp [hs, Result.code, hfail]
    · exact absurd rfl hne
  | settle =>
    have hs : s.state = .selecting := hinv.state_of_point hp
    have hlow := hinv.line_low_before_settle hp
    obtain rfl := sendSettle_next hadv
    simp [hs, hlow]
  | writeFrame =>
    have hs : s.state = .transmitting := hinv.state_of_point hp
    obtain ⟨hplen, f, hf, ⟨-, rfl⟩ | ⟨hacc, rfl⟩⟩ := sendWriteFrame_next hadv
    · exact absurd s.ensureTable_state hne
    · have hlen : f.length = 2056 := hf ▸ length_encodeFrame (s.length_payload.trans_le hplen) _ _
      have hshort := frameAccepted_eq_false_iff.mp hacc
      simpa [hs, Result.code, hlen, frameSize] using hshort
  | deassertLine =>
    have hs : s.state = .transmitting := hinv.state_of_point hp
    obtain ⟨hfail, rfl⟩ | ⟨hok, rfl⟩ := sendDeassertLine_next hadv
    · simp [hs, Result.code, hfail]
    · simpa [hs, hok] using hinv.frame_write_last hp
  | pollWrite =>
    have hs : s.state = .awaitingAck := hinv.state_of_point hp
    obtain ⟨hbound, rfl⟩ | ⟨-, hw, rfl⟩ | ⟨-, -, rfl⟩ := sendPollWrite_next hadv
    · obtain ⟨hmax, hcnt⟩ := s.pollBoundReached_iff.mp hbound
      simp [hs, Result.code, hmax, hcnt]
    · simpa [hs, Result.code, dummyByte] using hw
    · exact absurd rfl hne
  | pollRead =>
    have hs : s.state = .awaitingAck := hinv.state_of_point hp
    obtain ⟨herr, rfl⟩ | ⟨b, hb, rfl⟩ := sendPollRead_next hadv
    · simp [hs, Result.code, herr]
    obtain ⟨hc, h⟩ | ⟨hc, h⟩ | ⟨-, h⟩ | ⟨hc, h⟩ := s.chanRead.exchanged_cases b <;> rw [h] at hne ⊢
    · simp [hs, Result.code, hb, ackClass_eq_ack_iff.mp hc]
    · simp [hs, Result.code, hb, ackClass_eq_nack_iff.mp hc]
    · exact absurd rfl hne
    · simpa [hs, Result.code, hb] using ackClass_eq_reserved_iff.mp hc

end Sys2Proof.Machine
end

section
/-! PROOFS. The register access commands: the words that name a register, and what reading or writing each index does
(43_access.md R160, R161; 60_exceptions.md R176). -/

namespace Sys2Proof

/-- The `op` code, an index and a 16-bit operand set into their places make the word of 30_encoding.md R65. -/
theorem shiftLeft_or_idx_or_imm_eq_commandWord (op idx : Byte) (imm : Half) :
    op.setWidth 32 <<< 24 ||| idx.setWidth 32 <<< 16 ||| imm.setWidth 32 = commandWord op idx imm := by
  apply BitVec.eq_of_toNat_eq
  have hop := op.isLt
  have hidx := idx.isLt
  have himm := imm.isLt
  simp only [commandWord, BitVec.toNat_or, BitVec.toNat_shiftLeft, BitVec.toNat_setWidth, BitVec.toNat_append,
    Nat.shiftLeft_or_distrib, ← Nat.shiftLeft_add]
  simp only [Nat.shiftLeft_eq]
  congr 2 <;> omega

/-- The register of `RREG` is `idx`, with `imm` zero (30_encoding.md R67). -/
theorem decode_rregWord (r : Byte) : decode (0x40000000#32 ||| r.setWidth 32 <<< 16) = .command (.rreg r) := by
  have hword : 0x40000000#32 ||| r.setWidth 32 <<< 16 = commandWord 0x40#8 r 0#16 := by
    rw [← shiftLeft_or_idx_or_imm_eq_commandWord, BitVec.setWidth_zero, BitVec.or_zero]
    rfl
  simp [hword, decode, decodeRreg]

/-- The register of `WREG` is `idx` and the value all of `imm` (R67). -/
theorem decode_wregWord (r : Byte) (v : Half) :
    decode (0x41000000#32 ||| r.setWidth 32 <<< 16 ||| v.setWidth 32) = .command (.wreg r v) := by
  have hword : 0x41000000#32 ||| r.setWidth 32 <<< 16 ||| v.setWidth 32 = commandWord 0x41#8 r v :=
    shiftLeft_or_idx_or_imm_eq_commandWord 0x41#8 r v
  simp [hword, decode]

end Sys2Proof

namespace Sys2Proof.Machine

/-- The indices above that of `LINE` name no register (10_state.md R13). -/
theorem Reg.ofIndex_eq_none_of_lt {r : Byte} (h : 0x0A < r.toNat) : Reg.ofIndex r = none := by
  revert r; decide

/-- `STATUS` is `STATE` in bits 2:0 and `TV` in bit 3 (10_state.md R14). -/
theorem State.readReg_status (s : State) :
    s.readReg .status = s.state.code.setWidth 32 ||| (if s.tv then 8#32 else 0#32) := by
  simp only [State.readReg, State.status]
  cases s.tv <;> cases s.state <;> rfl

theorem exec_rreg_of_ofIndex_eq_some {r : Byte} {x : Reg} (s : State) (h : Reg.ofIndex r = some x) :
    exec (.rreg r) s = .next (s.respond .ok (s.readReg x)) := by
  simp [exec, execRreg, h]

theorem exec_rreg_of_ofIndex_eq_none {r : Byte} (s : State) (h : Reg.ofIndex r = none) :
    exec (.rreg r) s = .next (s.raise .badRegister) := by
  simp [exec, execRreg, h]

theorem exec_wreg_of_writeReg_eq_some {r : Byte} {v : Half} {s u : State} (h : s.writeReg r v = some u) :
    exec (.wreg r v) s = .next (u.respond .ok 0#32) := by
  simp [exec, execWreg, h]

theorem exec_wreg_of_writeReg_eq_none {r : Byte} {v : Half} {s : State} (h : s.writeReg r v = none) :
    exec (.wreg r v) s = .next (s.raise .badRegister) := by
  simp [exec, execWreg, h]

/-! Each writable register under its index (R161). -/

theorem State.writeReg_seq (s : State) (v : Half) : s.writeReg 0x02#8 v = some { s with seq := v } := rfl

theorem State.writeReg_pollmax (s : State) (v : Half) : s.writeReg 0x08#8 v = some { s with pollmax := v } := rfl

theorem State.writeReg_settle (s : State) (v : Half) : s.writeReg 0x09#8 v = some { s with settle := v } := rfl

theorem State.writeReg_line (s : State) (v : Half) : s.writeReg 0x0A#8 v = some { s with line := v } := rfl

/-- An index that is none of the four writable ones is not written (R161). -/
theorem State.writeReg_eq_none {r : Byte} (s : State) (v : Half) (h : r ∉ [0x02#8, 0x08#8, 0x09#8, 0x0A#8]) :
    s.writeReg r v = none := by
  obtain ⟨rfl, -⟩ | ⟨rfl, -⟩ | ⟨rfl, -⟩ | ⟨rfl, -⟩ | ⟨-, hw⟩ := s.writeReg_cases r v
  case inr.inr.inr.inr => exact hw
  all_goals simp at h

/-- Settles O45: an index names its register or none, and only the layout of `STATUS` is more than the register's
value. -/
theorem rregReadsRegister : Obligations.RregReadsRegister := by
  refine ⟨decode_rregWord, by decide, fun s => ⟨?named, ?unnamed⟩⟩
  case named =>
    intro r d hmem
    simp only [List.mem_cons, List.not_mem_nil, or_false, Prod.mk.injEq] at hmem
    obtain ⟨x, hx, rfl⟩ : ∃ x, Reg.ofIndex r = some x ∧ d = s.readReg x := by
      rw [← s.readReg_status] at hmem
      rcases hmem with ⟨rfl, rfl⟩ | ⟨rfl, rfl⟩ | ⟨rfl, rfl⟩ | ⟨rfl, rfl⟩ | ⟨rfl, rfl⟩ | ⟨rfl, rfl⟩ | ⟨rfl, rfl⟩ |
        ⟨rfl, rfl⟩ | ⟨rfl, rfl⟩ | ⟨rfl, rfl⟩ | ⟨rfl, rfl⟩ <;> exact ⟨_, rfl, rfl⟩
    exact exec_rreg_of_ofIndex_eq_some s hx
  case unnamed =>
    intro r hr
    exact exec_rreg_of_ofIndex_eq_none s (Reg.ofIndex_eq_none_of_lt hr)

/-- Settles O46: each writable index is the write of its register, and every other index is refused. -/
theorem wregWritesRegister : Obligations.WregWritesRegister := by
  refine ⟨decode_wregWord, fun s v => ⟨?seq, ?pollmax, ?settle, ?line, ?other⟩⟩
  case seq => exact exec_wreg_of_writeReg_eq_some (s.writeReg_seq v)
  case pollmax => exact exec_wreg_of_writeReg_eq_some (s.writeReg_pollmax v)
  case settle => exact exec_wreg_of_writeReg_eq_some (s.writeReg_settle v)
  case line => exact exec_wreg_of_writeReg_eq_some (s.writeReg_line v)
  case other => exact fun r hr => exec_wreg_of_writeReg_eq_none (s.writeReg_eq_none v hr)

end Sys2Proof.Machine
end

section
/-! PROOFS. Which words are commands: a word that decodes is the word of its command, so it selects that command's row
of the table (30_encoding.md R65 to R67). -/

namespace Sys2Proof

/-- A 16-bit operand is its two bytes. -/
theorem immHigh_append_byteOperand (imm : Half) : immHigh imm ++ byteOperand imm = imm :=
  BitVec.extractLsb'_append_extractLsb'_eq_extractLsb' rfl |>.trans BitVec.extractLsb'_eq_self

/-- With `imm[15:1]` zero, `imm` is the flag in bit 0 (R67). -/
theorem flagImm_eq {imm : Half} (h : imm.extractLsb' 1 15 = 0#15) :
    (if imm.getLsbD 0 then 1#16 else 0#16) = imm := by
  have hlow : imm.extractLsb' 1 15 ++ imm.extractLsb' 0 1 = imm :=
    BitVec.extractLsb'_append_extractLsb'_eq_extractLsb' rfl |>.trans BitVec.extractLsb'_eq_self
  rw [← hlow, h]
  generalize imm.extractLsb' 0 1 = b
  revert b
  decide

/-- A word from its `op` code, once the other two fields are known (R65). -/
theorem commandWord_eq {w : Word} {op idx : Byte} {imm : Half} (hop : opField w = op) (hidx : idxField w = idx)
    (himm : immField w = imm) : commandWord op idx imm = w := by
  rw [← hop, ← hidx, ← himm, commandWord_fields]

theorem encode_of_decodePlain {w : Word} {i j : Instr} {op : Byte} (hop : opField w = op)
    (hword : encode i = commandWord op 0#8 0#16) (h : decodePlain w i = .command j) : encode j = w := by
  unfold decodePlain at h
  split at h
  · obtain ⟨hidx, himm⟩ := ‹_ ∧ _›
    cases h
    rw [hword, commandWord_eq hop hidx himm]
  · cases h

theorem encode_of_decodeByte {w : Word} {i : Byte → Instr} {j : Instr} {op : Byte} (hop : opField w = op)
    (hword : ∀ b, encode (i b) = commandWord op 0#8 (0#8 ++ b)) (h : decodeByte w i = .command j) : encode j = w := by
  unfold decodeByte at h
  split at h
  · obtain ⟨hidx, hhigh⟩ := ‹_ ∧ _›
    cases h
    have himm : immField w = 0#8 ++ byteOperand (immField w) := by rw [← hhigh, immHigh_append_byteOperand]
    rw [hword, commandWord_eq hop hidx himm]
  · cases h

theorem encode_of_decodeFrd {w : Word} {j : Instr} (hop : opField w = 0x24#8) (h : decodeFrd w = .command j) :
    encode j = w := by
  unfold decodeFrd at h
  split at h
  · cases h
    exact commandWord_eq hop ‹_› rfl
  · cases h

theorem encode_of_decodeSigw {w : Word} {j : Instr} (hop : opField w = 0x30#8) (h : decodeSigw w = .command j) :
    encode j = w := by
  unfold decodeSigw at h
  split at h
  · obtain ⟨hidx, hhigh⟩ := ‹_ ∧ _›
    cases h
    exact commandWord_eq hop hidx (flagImm_eq hhigh).symm
  · cases h

theorem encode_of_decodeRreg {w : Word} {j : Instr} (hop : opField w = 0x40#8) (h : decodeRreg w = .command j) :
    encode j = w := by
  unfold decodeRreg at h
  split at h
  · cases h
    exact commandWord_eq hop rfl ‹_›
  · cases h

/-- A word that decodes is the word of the command it decodes to, shown by its `op` code (R66). -/
theorem encode_of_decode {w : Word} {i : Instr} (h : decode w = .command i) : encode i = w := by
  unfold decode at h
  split at h <;> rename_i hop
  · exact encode_of_decodePlain hop rfl h
  · exact encode_of_decodePlain hop rfl h
  · exact encode_of_decodeByte hop (fun _ => rfl) h
  · exact encode_of_decodePlain hop rfl h
  · exact encode_of_decodePlain hop rfl h
  · exact encode_of_decodeByte hop (fun _ => rfl) h
  · exact encode_of_decodePlain hop rfl h
  · exact encode_of_decodeByte hop (fun _ => rfl) h
  · exact encode_of_decodePlain hop rfl h
  · exact encode_of_decodePlain hop rfl h
  · exact encode_of_decodeFrd hop h
  · exact encode_of_decodeSigw hop h
  · exact encode_of_decodePlain hop rfl h
  · exact encode_of_decodeRreg hop h
  · cases h
    exact commandWord_eq hop rfl rfl
  · cases h

/-- The word of every command selects the row of its mnemonic (R66). -/
theorem Laws.RowMatch.all (i : Instr) : Laws.RowMatch.Statement i := by
  cases i with
  | tbld => exact tbld
  | cinit => exact cinit
  | cbyte b => exact cbyte b
  | cfin => exact cfin
  | csum => exact csum
  | trd k => exact trd k
  | prst => exact prst
  | ppush b => exact ppush b
  | seqinc => exact seqinc
  | enc => exact enc
  | frd a => exact frd a
  | sigw asserted => exact sigw asserted
  | send => exact send
  | rreg r => exact rreg r
  | wreg r v => exact wreg r v

/-- A word that decodes selects the row of its command's mnemonic (R66). -/
theorem exists_row_of_decode {w : Word} {i : Instr} (h : decode w = .command i) :
    ∃ r ∈ commandTable, r.mnemonic = mnemonicOf i ∧ w &&& r.mask = r.pattern := by
  obtain ⟨r, hmem, hmnemonic, hsel⟩ := Laws.RowMatch.all i
  rw [encode_of_decode h] at hsel
  exact ⟨r, hmem, hmnemonic, beq_iff_eq.mp hsel⟩

/-- A word that selects no row is no command (R68). -/
theorem decode_eq_illegal_of_no_row {w : Word} (h : ∀ r ∈ commandTable, w &&& r.mask ≠ r.pattern) :
    ∃ why, decode w = .illegal why := by
  cases hdec : decode w with
  | command i =>
    obtain ⟨r, hmem, -, hsel⟩ := exists_row_of_decode hdec
    exact absurd hsel (h r hmem)
  | illegal why => exact ⟨why, rfl⟩

end Sys2Proof
end

section
/-! PROOFS. Command faults: an illegal word, and what a command can answer (60_exceptions.md R170, R172, R173). -/

namespace Sys2Proof.Machine

/-- Between commands a word that is no command is taken and answered `IllegalCommand` (R173). -/
theorem step_of_illegal {s : State} {w : Word} {rest : List Word} {why : IllegalWord} (hp : s.point = none)
    (hcmds : s.cmds = w :: rest) (hdec : decode w = .illegal why) :
    step s = .next (s.commandTaken.raise .illegalCommand) := by
  simp [step, hp, State.takeCommand_cons hcmds, hdec, execIllegal]

/-- A command fault after the host's word has been taken, as one update of the state before (R172). -/
theorem State.commandTaken_raise_eq {s : State} {w : Word} {rest : List Word} (h : s.cmds = w :: rest) (q : Result) :
    s.commandTaken.raise q = { s with cmds := rest, responses := s.responses ++ [⟨q.code, 0#32⟩] } := by
  rw [State.commandTaken_eq h]
  rfl

/-- Settles O6: a word that selects no row does not decode, since every word that does selects its command's row. -/
theorem illegalWordRaisesIllegalCommand : Obligations.IllegalWordRaisesIllegalCommand := by
  intro s w rest hp hcmds hrows
  obtain ⟨why, hdec⟩ := decode_eq_illegal_of_no_row hrows
  rw [step_of_illegal hp hcmds hdec, State.commandTaken_raise_eq hcmds]
  rfl

/-- Writing a register can change the four writable ones and nothing else (43_access.md R161, R162). -/
theorem State.writeReg_frame {s u : State} {r : Byte} {v : Half} (h : s.writeReg r v = some u) :
    u = { s with seq := u.seq, pollmax := u.pollmax, settle := u.settle, line := u.line } := by
  obtain ⟨-, hw⟩ | ⟨-, hw⟩ | ⟨-, hw⟩ | ⟨-, hw⟩ | ⟨-, hw⟩ := s.writeReg_cases r v <;> cases hw.symm.trans h <;> rfl

theorem State.writeReg_responses {s u : State} {r : Byte} {v : Half} (h : s.writeReg r v = some u) :
    u.responses = s.responses := by
  rw [State.writeReg_frame h]

/-- How a command answers: with a command fault that changes nothing else, with `ok`, with `SignalFault` (`SIGW`
alone), or not yet (`SEND`) (60_exceptions.md R170 to R172). -/
theorem exec_answers {i : Instr} {s t : State} (h : exec i s = .next t) :
    (∃ q : Result, 0x10 ≤ q.code.toNat ∧ t = s.raise q) ∨
    (∃ d, t.responses = s.responses ++ [⟨Result.ok.code, d⟩]) ∨
    ((∃ asserted, i = .sigw asserted) ∧ t.responses = s.responses ++ [⟨Result.signalFault.code, 0#32⟩]) ∨
    (i = .send ∧ t.responses = s.responses) := by
  cases i with
  | tbld => rw [execTbld_next h]; exact .inr (.inl ⟨_, rfl⟩)
  | cinit => rw [execCinit_next h]; exact .inr (.inl ⟨_, rfl⟩)
  | cbyte b => rw [execCbyte_next h]; exact .inr (.inl ⟨0#32, by simp⟩)
  | cfin => rw [execCfin_next h]; exact .inr (.inl ⟨_, rfl⟩)
  | csum => obtain ⟨-, c, -, rfl⟩ := execCsum_next h; exact .inr (.inl ⟨c, by simp⟩)
  | trd k => rw [execTrd_next h]; exact .inr (.inl ⟨s.ensureTable.tableEntry k.toNat, by simp⟩)
  | prst => rw [execPrst_next h]; exact .inr (.inl ⟨_, rfl⟩)
  | ppush b =>
    obtain ⟨-, rfl⟩ | ⟨-, rfl⟩ := execPpush_next h
    · exact .inr (.inl ⟨_, rfl⟩)
    · exact .inl ⟨_, by decide, rfl⟩
  | seqinc => rw [execSeqinc_next h]; exact .inr (.inl ⟨_, rfl⟩)
  | enc => obtain ⟨-, rfl⟩ := execEnc_next h; exact .inr (.inl ⟨0#32, by simp⟩)
  | frd a =>
    obtain ⟨-, rfl⟩ | ⟨-, rfl⟩ := execFrd_next h
    · exact .inr (.inl ⟨_, rfl⟩)
    · exact .inl ⟨_, by decide, rfl⟩
  | sigw asserted =>
    obtain ⟨level, r, -, ⟨-, rfl⟩ | ⟨-, rfl⟩, rfl⟩ := execSigw_next h
    · exact .inr (.inl ⟨_, rfl⟩)
    · exact .inr (.inr (.inl ⟨⟨asserted, rfl⟩, rfl⟩))
  | send => rw [execSend_next h]; exact .inr (.inr (.inr ⟨rfl, rfl⟩))
  | rreg r =>
    obtain ⟨x, -, rfl⟩ | ⟨-, rfl⟩ := execRreg_next h
    · exact .inr (.inl ⟨_, rfl⟩)
    · exact .inl ⟨_, by decide, rfl⟩
  | wreg r v =>
    obtain ⟨u, hu, rfl⟩ | ⟨-, rfl⟩ := execWreg_next h
    · exact .inr (.inl ⟨_, by rw [State.respond_responses, State.writeReg_responses hu]⟩)
    · exact .inl ⟨_, by decide, rfl⟩

/-- The code added by a step between commands is that of a command fault only where the step is `raise` (R172). -/
theorem step_of_command_fault {s t : State} {r : Response} (hp : s.point = none) (hcmds : s.cmds ≠ [])
    (h : step s = .next t) (hresp : t.responses = s.responses ++ [r]) (hrc : 0x10 ≤ r.rc.toNat) :
    ∃ q, t = s.commandTaken.raise q := by
  obtain ⟨p, hpoint, -⟩ | ⟨-, hnil, -⟩ | ⟨w, rest, i, -, -, -, hexec⟩ | ⟨w, rest, why, -, -, -, hraise⟩ := step_cases h
  · simp [hp] at hpoint
  · exact absurd hnil hcmds
  · obtain ⟨q, -, hraise⟩ | ⟨d, hok⟩ | ⟨-, hfail⟩ | ⟨-, hnone⟩ := exec_answers hexec
    · exact ⟨q, hraise⟩
    · obtain rfl : ⟨Result.ok.code, d⟩ = r := by simpa [hresp] using hok.symm
      simp [Result.code] at hrc
    · obtain rfl : ⟨Result.signalFault.code, 0#32⟩ = r := by simpa [hresp] using hfail.symm
      simp [Result.code] at hrc
    · simp [hresp] at hnone
  · exact ⟨_, hraise⟩

/-- Settles O53: a response code of 0x10 or above comes from `raise` alone, which adds its response and nothing
else. -/
theorem commandFaultChangesNothing : Obligations.CommandFaultChangesNothing := by
  intro s t w rest r hp hcmds hstep hresp hrc
  obtain ⟨q, rfl⟩ := step_of_command_fault hp (by simp [hcmds]) hstep hresp hrc
  obtain rfl : ⟨q.code, 0#32⟩ = r := by simpa using hresp
  exact ⟨rfl, State.commandTaken_raise_eq hcmds q⟩

end Sys2Proof.Machine
end

section
/-! PROOFS. What reset leaves: the register values, the line levels of an empty trace, and a block that waits while the
host issues nothing (70_reset_and_hazards.md R200, R201). -/

namespace Sys2Proof.Machine

/-- With no `SEND` running and no word issued, a step changes nothing: the model's reading of waiting, log entry 6. -/
theorem step_of_no_command {s : State} (hp : s.point = none) (hcmds : s.cmds = []) : step s = .next s := by
  simp [step, hp, State.takeCommand_nil hcmds]

/-- Before its first event the trace leaves every line at its reset level (10_state.md R31). -/
theorem State.lineLevel_of_trace_nil {s : State} (h : s.trace = []) (l : Half) :
    s.lineLevel l = Config.sigResetLevel l := by
  simp [State.lineLevel, h]

/-- `STATUS` reads 0 exactly when `STATE` is Idle and the table has not been built (10_state.md R14). -/
theorem State.readReg_status_eq_zero_iff (s : State) :
    s.readReg .status = 0#32 ↔ s.state = .idle ∧ s.tv = false := by
  rw [State.readReg_status]
  cases s.state <;> cases s.tv <;> decide

/-- Settles O10: `STATUS` reads 0 since `STATE` is Idle and `TV` is 0, each other register reads as the value its field
is reset to, and the lines and the step follow from the empty trace and the empty command port. -/
theorem resetLeavesSpecValues : Obligations.ResetLeavesSpecValues := by
  have hstate : State.reset.state = .idle := rfl
  have htv : State.reset.tv = false := rfl
  have htrace : State.reset.trace = [] := rfl
  have hstatus : State.reset.readReg .status = 0x0#32 := State.reset.readReg_status_eq_zero_iff.mpr ⟨hstate, htv⟩
  have hstep : step State.reset = .next State.reset := step_of_no_command rfl rfl
  exact ⟨hstatus, rfl, rfl, rfl, rfl, rfl, rfl, rfl, rfl, rfl, rfl, hstate, htv, htrace,
    State.lineLevel_of_trace_nil htrace, hstep⟩

end Sys2Proof.Machine
end

section
/-! PROOFS. The decoder against the encoder, and against the `match` and `mask` columns of the command table
(30_encoding.md R65 to R68). -/

namespace Sys2Proof

theorem decodePlain_commandWord (op : Byte) (i : Instr) : decodePlain (commandWord op 0#8 0#16) i = .command i := by
  simp [decodePlain]

theorem decodeSigw_commandWord (op : Byte) (asserted : Bool) :
    decodeSigw (commandWord op 0#8 (if asserted then 1#16 else 0#16)) = .command (.sigw asserted) := by
  cases asserted <;> simp [decodeSigw]

/-- Settles O2: the word of a command carries its `op` code, which selects the decoder's branch, and that branch reads
back the operands that the word holds. -/
theorem decodeInvertsEncode : Obligations.DecodeInvertsEncode := by
  intro i
  cases i with
  | tbld => exact decodePlain_commandWord 0x10#8 _
  | cinit => exact decodePlain_commandWord 0x11#8 _
  | cbyte b => simp [encode, decode, decodeByte_commandWord]
  | cfin => exact decodePlain_commandWord 0x13#8 _
  | csum => exact decodePlain_commandWord 0x14#8 _
  | trd k => simp [encode, decode, decodeByte_commandWord]
  | prst => exact decodePlain_commandWord 0x20#8 _
  | ppush b => simp [encode, decode, decodeByte_commandWord]
  | seqinc => exact decodePlain_commandWord 0x22#8 _
  | enc => exact decodePlain_commandWord 0x23#8 _
  | frd a => simp [encode, decode, decodeFrd]
  | sigw asserted => simp [encode, decode, decodeSigw_commandWord]
  | send => exact decodePlain_commandWord 0x31#8 _
  | rreg r => simp [encode, decode, decodeRreg]
  | wreg r v => simp [encode, decode]

/-- Settles O3: the three fields of a word that decodes are those of its command's word. -/
theorem encodeInvertsDecode : Obligations.EncodeInvertsDecode :=
  fun _ _ h => encode_of_decode h

/-- Bits that a mask keeps are those of the masked word. -/
theorem extractLsb'_eq_of_masked {w m p : Word} {start len : Nat} (h : w &&& m = p)
    (hm : m.extractLsb' start len = BitVec.allOnes len) : w.extractLsb' start len = p.extractLsb' start len := by
  rw [← h, BitVec.extractLsb'_and, hm, BitVec.and_allOnes]

/-- Every row fixes all of `op`, so a word that selects it has the row's `op` code (R66). -/
theorem opField_of_selects {w : Word} {r : TableRow} (hr : r ∈ commandTable) (h : w &&& r.mask = r.pattern) :
    opField w = opField r.pattern := by
  have hmask : ∀ r ∈ commandTable, r.mask.extractLsb' 24 8 = BitVec.allOnes 8 := by decide
  exact extractLsb'_eq_of_masked h (hmask r hr)

/-- Settles O5: two rows that one word selects have the `op` code of that word, and no two rows share a code. -/
theorem commandTableRowsAreDisjoint : Obligations.CommandTableRowsAreDisjoint := by
  have hinj : ∀ r ∈ commandTable, ∀ r' ∈ commandTable, opField r.pattern = opField r'.pattern → r = r' := by decide
  intro w r hr r' hr' h h'
  exact hinj r hr r' hr' ((opField_of_selects hr h).symm.trans (opField_of_selects hr' h'))

/-! Where a word selects a row it decodes to a command of the row's mnemonic, by the shape of the row (R66). -/

theorem exists_decode_of_plainRow {w : Word} (i : Instr) (h : w &&& 0xFFFFFFFF#32 = encode i) :
    ∃ j, decode w = .command j ∧ mnemonicOf j = mnemonicOf i := by
  have hw : w = encode i := BitVec.and_allOnes.symm.trans h
  exact ⟨i, hw ▸ decodeInvertsEncode i, rfl⟩

theorem exists_decode_of_byteRow {w : Word} {name : String} (op : Byte) (i : Byte → Instr)
    (hdec : opField w = op → decode w = decodeByte w i) (hname : ∀ b, mnemonicOf (i b) = name)
    (h : w &&& 0xFFFFFF00#32 = commandWord op 0#8 0#16) : ∃ j, decode w = .command j ∧ mnemonicOf j = name := by
  have hop : opField w = op := (extractLsb'_eq_of_masked h rfl).trans (opField_commandWord op 0#8 0#16)
  have hidx : idxField w = 0#8 := (extractLsb'_eq_of_masked h rfl).trans (idxField_commandWord op 0#8 0#16)
  have hlow : (commandWord op 0#8 0#16).extractLsb' 8 8 = 0#8 := by
    rw [← BitVec.extractLsb'_extractLsb'_of_le (len' := 16) (by decide)]
    exact congrArg immHigh (immField_commandWord op 0#8 0#16)
  have hhigh : immHigh (immField w) = 0#8 :=
    (BitVec.extractLsb'_extractLsb'_of_le (by decide)).trans ((extractLsb'_eq_of_masked h rfl).trans hlow)
  exact ⟨_, by rw [hdec hop, decodeByte, if_pos ⟨hidx, hhigh⟩], hname _⟩

theorem exists_decode_of_frdRow {w : Word} (h : w &&& 0xFFFF0000#32 = 0x24000000#32) :
    ∃ j, decode w = .command j ∧ mnemonicOf j = "FRD" := by
  have hop : opField w = 0x24#8 := extractLsb'_eq_of_masked h rfl
  have hidx : idxField w = 0#8 := extractLsb'_eq_of_masked h rfl
  exact ⟨.frd (immField w), by simp [decode, hop, decodeFrd, hidx], rfl⟩

theorem exists_decode_of_sigwRow {w : Word} (h : w &&& 0xFFFFFFFE#32 = 0x30000000#32) :
    ∃ j, decode w = .command j ∧ mnemonicOf j = "SIGW" := by
  have hop : opField w = 0x30#8 := extractLsb'_eq_of_masked h rfl
  have hidx : idxField w = 0#8 := extractLsb'_eq_of_masked h rfl
  have hhigh : (immField w).extractLsb' 1 15 = 0#15 :=
    BitVec.extractLsb'_extractLsb'_of_le (by decide) |>.trans (extractLsb'_eq_of_masked h rfl)
  exact ⟨.sigw ((immField w).getLsbD 0), by simp [decode, hop, decodeSigw, hidx, hhigh], rfl⟩

theorem exists_decode_of_rregRow {w : Word} (h : w &&& 0xFF00FFFF#32 = 0x40000000#32) :
    ∃ j, decode w = .command j ∧ mnemonicOf j = "RREG" := by
  have hop : opField w = 0x40#8 := extractLsb'_eq_of_masked h rfl
  have himm : immField w = 0#16 := extractLsb'_eq_of_masked h rfl
  exact ⟨.rreg (idxField w), by simp [decode, hop, decodeRreg, himm], rfl⟩

theorem exists_decode_of_wregRow {w : Word} (h : w &&& 0xFF000000#32 = 0x41000000#32) :
    ∃ j, decode w = .command j ∧ mnemonicOf j = "WREG" := by
  have hop : opField w = 0x41#8 := extractLsb'_eq_of_masked h rfl
  exact ⟨.wreg (idxField w) (immField w), by simp [decode, hop], rfl⟩

/-- Settles O4: a command's word selects its row, and a row's mask fixes the very bits that the decoder checks. -/
theorem decodeFollowsCommandTable : Obligations.DecodeFollowsCommandTable := by
  refine fun w => ⟨fun i h => exists_row_of_decode h, ?_⟩
  simp only [commandTable, List.cons_append, List.nil_append, List.forall_mem_cons]
  refine ⟨exists_decode_of_plainRow .tbld, exists_decode_of_plainRow .cinit,
    exists_decode_of_byteRow 0x12#8 .cbyte ?cbyte fun _ => rfl, exists_decode_of_plainRow .cfin,
    exists_decode_of_plainRow .csum, exists_decode_of_byteRow 0x15#8 .trd ?trd fun _ => rfl,
    exists_decode_of_plainRow .prst, exists_decode_of_byteRow 0x21#8 .ppush ?ppush fun _ => rfl,
    exists_decode_of_plainRow .seqinc, exists_decode_of_plainRow .enc, exists_decode_of_frdRow,
    exists_decode_of_sigwRow, exists_decode_of_plainRow .send, exists_decode_of_rregRow, exists_decode_of_wregRow,
    List.forall_mem_nil _⟩
  all_goals
    intro hop
    simp [decode, hop]

/-- Settles O1: a finite list of literal words. -/
theorem decodeReadsSpecWords : Obligations.DecodeReadsSpecWords := by
  unfold Obligations.DecodeReadsSpecWords
  decide

end Sys2Proof
end

section
/-! PROOFS. What a step of a running `SEND` can write, said once for all six points, and what the rules of
42_handshake.md R132, R133 and 20_memory.md section 4 draw from it. -/

namespace Sys2Proof.Machine

/-- `EnsureTable` writes `T` only while `TV` is 0 (40_crc.md R82). -/
theorem State.ensureTable_table_cases (s : State) : s.ensureTable.table = s.table ∨ s.tv = false := by
  cases hv : s.tv
  · exact .inr rfl
  · exact .inl (by rw [State.ensureTable_of_valid hv])

/-- `u` is `s` after the request of the point `p`, before the packet goes on or ends: what the point may write, and
everything else as it was (42_handshake.md R124, R133). -/
structure State.Served (p : SendPoint) (s u : State) : Prop where
  seq : u.seq = s.seq
  plen : u.plen = s.plen
  line : u.line = s.line
  settle : u.settle = s.settle
  pollmax : u.pollmax = s.pollmax
  crcacc : u.crcacc = s.crcacc
  crcr : u.crcr = s.crcr
  pb : u.pb = s.pb
  cmds : u.cmds = s.cmds
  err : u.err = s.err
  responses : u.responses = s.responses
  ackb : p ≠ .pollRead → u.ackb = s.ackb
  frame : p ≠ .writeFrame → u.fb = s.fb ∧ u.table = s.table ∧ u.tv = s.tv
  table : u.table = s.table ∨ s.tv = false
  trace : u.trace = s.trace ∨ ∃ e, u.trace = s.trace ++ [e]

/-- A step of a running `SEND` makes the point's request and goes on to a next point, or ends with a result of R132. -/
theorem advanceSend_served {s t : State} {p : SendPoint} (h : advanceSend p s = .next t) :
    ∃ u, s.Served p u ∧
      ((∃ q, t = u.goTo q) ∨ ∃ st r, Result.finalState r = some st ∧ t = u.finish st r) := by
  cases p with
  | assertLine =>
    refine ⟨s.sigWrite s.line .low, by constructor <;> simp, ?_⟩
    obtain ⟨-, rfl⟩ | ⟨-, rfl⟩ := sendAssertLine_next h
    · exact .inr ⟨_, _, rfl, rfl⟩
    · exact .inl ⟨_, rfl⟩
  | settle =>
    exact ⟨(s.delay s.settle).setState .transmitting, by constructor <;> simp, .inl ⟨_, sendSettle_next h⟩⟩
  | writeFrame =>
    obtain ⟨-, f, -, hend⟩ := sendWriteFrame_next h
    refine ⟨(s.ensureTable.storeFrame f).chanWrite f,
      by constructor <;> simp [State.ensureTable_table_cases], ?_⟩
    obtain ⟨-, rfl⟩ | ⟨-, rfl⟩ := hend
    · exact .inl ⟨_, rfl⟩
    · exact .inr ⟨_, _, rfl, rfl⟩
  | deassertLine =>
    obtain ⟨-, rfl⟩ | ⟨-, rfl⟩ := sendDeassertLine_next h
    · exact ⟨_, by constructor <;> simp, .inr ⟨_, _, rfl, rfl⟩⟩
    · exact ⟨(s.sigWrite s.line .high).setState .awaitingAck, by constructor <;> simp, .inl ⟨_, rfl⟩⟩
  | pollWrite =>
    obtain ⟨-, rfl⟩ | ⟨-, -, rfl⟩ | ⟨-, -, rfl⟩ := sendPollWrite_next h
    · exact ⟨s, by constructor <;> simp, .inr ⟨_, _, rfl, rfl⟩⟩
    · exact ⟨_, by constructor <;> simp, .inr ⟨_, _, rfl, rfl⟩⟩
    · exact ⟨_, by constructor <;> simp, .inl ⟨_, rfl⟩⟩
  | pollRead =>
    obtain ⟨-, rfl⟩ | ⟨b, -, rfl⟩ := sendPollRead_next h
    · exact ⟨_, by constructor <;> simp, .inr ⟨_, _, rfl, rfl⟩⟩
    refine ⟨s.chanRead.countExchange b, by constructor <;> simp, ?_⟩
    obtain ⟨-, h⟩ | ⟨-, h⟩ | ⟨-, h⟩ | ⟨-, h⟩ := s.chanRead.exchanged_cases b
    · exact .inr ⟨_, _, rfl, h⟩
    · exact .inr ⟨_, _, rfl, h⟩
    · exact .inl ⟨_, h⟩
    · exact .inr ⟨_, _, rfl, h⟩

/-- Settles O9: no request of a running `SEND` is a word taken. -/
theorem runningSendTakesNoWord : Obligations.RunningSendTakesNoWord := by
  intro s t hp hstep
  obtain ⟨p, hp⟩ := Option.ne_none_iff_exists'.mp hp
  rw [step_of_point hp] at hstep
  obtain ⟨u, hu, ⟨q, rfl⟩ | ⟨st, r, -, rfl⟩⟩ := advanceSend_served hstep <;> exact hu.cmds

end Sys2Proof.Machine
end

section
/-! PROOFS. Which command writes which register and buffer: one structure that every step meets (43_access.md R162,
10_state.md section 3, 20_memory.md section 7). -/

namespace Sys2Proof.Machine

/-- The commands that call `EnsureTable` (40_crc.md R82). -/
def EnsuresTable (c : Option Instr) : Prop :=
  (∃ b, c = some (.cbyte b)) ∨ c = some .csum ∨ (∃ i, c = some (.trd i)) ∨ c = some .enc ∨ c = some .send

/-- From `s` to `t` only what the command `c` may write has changed; no command, no change (43_access.md R162). -/
structure State.WrittenBy (c : Option Instr) (s t : State) : Prop where
  state : t.state ≠ s.state → c = some .send
  tv : t.tv ≠ s.tv → c = some .tbld ∨ EnsuresTable c
  err : t.err ≠ s.err → (∃ a, c = some (.sigw a)) ∨ c = some .send
  seq : t.seq ≠ s.seq → c = some .seqinc ∨ ∃ v, c = some (.wreg 0x02#8 v)
  plen : t.plen ≠ s.plen → c = some .prst ∨ ∃ b, c = some (.ppush b)
  crcacc : t.crcacc ≠ s.crcacc → c = some .cinit ∨ ∃ b, c = some (.cbyte b)
  crcr : t.crcr ≠ s.crcr → c = some .cfin ∨ c = some .csum
  ackb : t.ackb ≠ s.ackb → c = some .send
  pollcnt : t.pollcnt ≠ s.pollcnt → c = some .send
  pollmax : t.pollmax ≠ s.pollmax → ∃ v, c = some (.wreg 0x08#8 v)
  settle : t.settle ≠ s.settle → ∃ v, c = some (.wreg 0x09#8 v)
  line : t.line ≠ s.line → ∃ v, c = some (.wreg 0x0A#8 v)
  point : t.point ≠ s.point → c = some .send
  table : t.table = s.table ∨ c = some .tbld ∨ s.tv = false ∧ EnsuresTable c
  pb : t.pb = s.pb ∨ ∃ b, c = some (.ppush b) ∧ t.pb = Cells.write s.plen.toNat b s.pb
  fb : t.fb = s.fb ∨ c = some .enc ∨ c = some .send
  trace : t.trace = s.trace ∨ (∃ e, t.trace = s.trace ++ [e]) ∧ ((∃ a, c = some (.sigw a)) ∨ c = some .send)

/-- Each command writes the registers and buffers of its own rows (R162). -/
theorem exec_writtenBy {i : Instr} {s t : State} (h : exec i s = .next t) : s.WrittenBy (some i) t := by
  have htable := s.ensureTable_table_cases
  cases i with
  | tbld => rw [execTbld_next h]; constructor <;> simp
  | cinit => rw [execCinit_next h]; constructor <;> simp
  | cbyte b => rw [execCbyte_next h]; constructor <;> simp [EnsuresTable, htable]
  | cfin => rw [execCfin_next h]; constructor <;> simp
  | csum => obtain ⟨-, c, -, rfl⟩ := execCsum_next h; constructor <;> simp [EnsuresTable, htable]
  | trd k => rw [execTrd_next h]; constructor <;> simp [EnsuresTable, htable]
  | prst => rw [execPrst_next h]; constructor <;> simp
  | ppush b => obtain ⟨-, rfl⟩ | ⟨-, rfl⟩ := execPpush_next h <;> constructor <;> simp
  | seqinc => rw [execSeqinc_next h]; constructor <;> simp
  | enc => obtain ⟨-, rfl⟩ := execEnc_next h; constructor <;> simp [EnsuresTable, htable]
  | frd a => obtain ⟨-, rfl⟩ | ⟨-, rfl⟩ := execFrd_next h <;> constructor <;> simp
  | sigw asserted => obtain ⟨level, r, -, -, rfl⟩ := execSigw_next h; constructor <;> simp
  | send => rw [execSend_next h]; constructor <;> simp [EnsuresTable]
  | rreg r => obtain ⟨x, -, rfl⟩ | ⟨-, rfl⟩ := execRreg_next h <;> constructor <;> simp
  | wreg r v =>
    obtain ⟨u, hu, rfl⟩ | ⟨-, rfl⟩ := execWreg_next h
    · obtain ⟨rfl, hw⟩ | ⟨rfl, hw⟩ | ⟨rfl, hw⟩ | ⟨rfl, hw⟩ | ⟨-, hw⟩ := s.writeReg_cases r v <;>
        cases hw.symm.trans hu <;> constructor <;> simp
    · constructor <;> simp

/-- A running `SEND` writes the rows of `SEND`. -/
theorem advanceSend_writtenBy {s t : State} {p : SendPoint} (h : advanceSend p s = .next t) :
    s.WrittenBy (some .send) t := by
  obtain ⟨u, hu, ⟨q, rfl⟩ | ⟨st, r, -, rfl⟩⟩ := advanceSend_served h <;> constructor <;>
    simp [EnsuresTable, hu.seq, hu.plen, hu.crcacc, hu.crcr, hu.pollmax, hu.settle, hu.line, hu.pb, hu.table, hu.trace]

theorem State.current_of_point {s : State} {p : SendPoint} (hp : s.point = some p) : s.current = some .send := by
  simp [State.current, hp]

theorem State.current_of_word {s : State} {w : Word} {rest : List Word} {i : Instr} (hp : s.point = none)
    (hcmds : s.cmds = w :: rest) (hdec : decode w = .command i) : s.current = some i := by
  simp [State.current, hp, hcmds, hdec]

/-- Every step writes what the command in execution may write. -/
theorem step_writtenBy {s t : State} (h : step s = .next t) : s.WrittenBy s.current t := by
  obtain ⟨p, hp, hadv⟩ | ⟨-, -, rfl⟩ | ⟨w, rest, i, hp, hcmds, hdec, hexec⟩ | ⟨w, rest, why, -, -, -, rfl⟩ :=
    step_cases h
  · rw [State.current_of_point hp]
    exact advanceSend_writtenBy hadv
  · constructor <;> simp
  · rw [State.current_of_word hp hcmds hdec]
    exact { exec_writtenBy hexec with }
  · constructor <;> simp

/-- Settles O50: the rows of the writers table, one for each register. -/
theorem registersWrittenOnlyByTheirCommands : Obligations.RegistersWrittenOnlyByTheirCommands := by
  intro s t hstep
  have h := step_writtenBy hstep
  exact ⟨h.state, h.tv, h.err, h.seq, h.plen, h.crcacc, h.crcr, h.ackb, h.pollcnt, h.pollmax, h.settle, h.line⟩

/-- The bytes of `PB` that a step may change: the one at `PLEN`, in `PPUSH` (10_state.md section 3). -/
theorem State.WrittenBy.payloadByte_eq {c : Option Instr} {s t : State} (h : s.WrittenBy c t) {a : Nat}
    (ha : (∃ b, c = some (.ppush b)) → a ≠ s.plen.toNat) : t.payloadByte a = s.payloadByte a := by
  unfold State.payloadByte
  obtain hpb | ⟨b, hc, hpb⟩ := h.pb
  · rw [hpb]
  · rw [hpb, Cells.find_write_other (ha ⟨b, hc⟩)]

/-- Settles O51: a buffer that is not written reads as before at every index. -/
theorem buffersWrittenOnlyByTheirCommands : Obligations.BuffersWrittenOnlyByTheirCommands := by
  intro s t hstep
  have h := step_writtenBy hstep
  refine ⟨?noPush, ?push, ?frame, ?table⟩
  case noPush =>
    intro hc a
    exact h.payloadByte_eq fun ⟨b, hb⟩ => absurd hb (hc b)
  case push =>
    intro b hc a ha
    exact h.payloadByte_eq fun _ => ha
  case frame =>
    intro henc hsend a
    have hfb : t.fb = s.fb := h.fb.resolve_right (not_or.mpr ⟨henc, hsend⟩)
    simp [State.frameByte, hfb]
  case table =>
    rintro ⟨i, hi⟩
    refine h.table.resolve_left fun htable => hi ?_
    simp [State.tableEntry, htable]

/-- Settles O52: one step makes one request at most. -/
theorem traceGrowsOnlyBySigwAndSend : Obligations.TraceGrowsOnlyBySigwAndSend :=
  fun _ _ hstep => (step_writtenBy hstep).trace

/-- Where a step of a `SEND` comes from: the word `SEND`, or a point of one that runs. -/
theorem step_of_current_send {s t : State} (hcur : s.current = some .send) (h : step s = .next t) :
    (s.point = none ∧ t = { s.commandTaken with pollcnt := 0#16, state := .selecting, point := some .assertLine }) ∨
    ∃ p, s.point = some p ∧ advanceSend p s = .next t := by
  obtain ⟨p, hp, hadv⟩ | ⟨hp, hcmds, -⟩ | ⟨w, rest, i, hp, hcmds, hdec, hexec⟩ | ⟨w, rest, why, hp, hcmds, hdec, -⟩ :=
    step_cases h
  · exact .inr ⟨p, hp, hadv⟩
  · simp [State.current, hp, hcmds] at hcur
  · obtain rfl : i = .send := by simpa [State.current_of_word hp hcmds hdec] using hcur
    exact .inl ⟨hp, execSend_next hexec⟩
  · simp [State.current, hp, hcmds, hdec] at hcur

/-- Settles O43: no point writes an input, and `FB`, `T`, `TV`, `ACKB` and `ERR` are written at theirs only. -/
theorem sendLeavesInputsAlone : Obligations.SendLeavesInputsAlone := by
  intro s t hcur hstep
  obtain ⟨hp, rfl⟩ | ⟨p, hp, hadv⟩ := step_of_current_send hcur hstep
  · exact ⟨rfl, rfl, rfl, rfl, rfl, rfl, rfl, fun _ => rfl, fun _ => ⟨fun _ => rfl, fun _ => rfl, rfl⟩, fun _ => rfl,
      fun _ => rfl⟩
  obtain ⟨u, hu, hend⟩ := advanceSend_served hadv
  have hpayload : ∀ a, u.payloadByte a = s.payloadByte a := fun a => by simp [State.payloadByte, hu.pb]
  have hbuffers : p ≠ .writeFrame → (∀ a, u.frameByte a = s.frameByte a) ∧
      (∀ i, u.tableEntry i = s.tableEntry i) ∧ u.tv = s.tv := fun hne => by
    obtain ⟨hfb, htable, htv⟩ := hu.frame hne
    exact ⟨fun a => by simp [State.frameByte, hfb], fun i => by simp [State.tableEntry, htable], htv⟩
  rw [hp, ne_eq, ne_eq, Option.some.injEq, Option.some.injEq]
  obtain ⟨q, rfl⟩ | ⟨st, r, -, rfl⟩ := hend
  · exact ⟨hu.seq, hu.plen, hu.line, hu.settle, hu.pollmax, hu.crcacc, hu.crcr, hpayload, hbuffers, hu.ackb,
      fun _ => hu.err⟩
  · exact ⟨hu.seq, hu.plen, hu.line, hu.settle, hu.pollmax, hu.crcacc, hu.crcr, hpayload, hbuffers, hu.ackb,
      fun hne => absurd rfl hne⟩

end Sys2Proof.Machine
end

section
/-! PROOFS. The response a step gives: none while a `SEND` goes on, else one, with a code the spec lists
(60_exceptions.md R170; 20_memory.md section 4). -/

namespace Sys2Proof.Machine

/-- From `s` to `t` the block has answered a listed code, with data 0 unless it is 0x00 (R170, 30_encoding.md R70). -/
def State.Answers (s t : State) : Prop :=
  ∃ r : Response, t.responses = s.responses ++ [r] ∧
    r.rc ∈ [0x00#8, 0x01#8, 0x02#8, 0x03#8, 0x04#8, 0x05#8, 0x06#8, 0x10#8, 0x11#8, 0x12#8, 0x13#8] ∧
    (r.rc ≠ 0x00#8 → r.data = 0#32)

theorem Result.code_mem (q : Result) :
    q.code ∈ [0x00#8, 0x01#8, 0x02#8, 0x03#8, 0x04#8, 0x05#8, 0x06#8, 0x10#8, 0x11#8, 0x12#8, 0x13#8] := by
  cases q <;> decide

theorem State.answers_of_code {s t : State} {q : Result} (h : t.responses = s.responses ++ [⟨q.code, 0#32⟩]) :
    s.Answers t :=
  ⟨_, h, q.code_mem, fun _ => rfl⟩

/-- A running `SEND` answers in the step that ends it and in no other (42_handshake.md R132). -/
theorem advanceSend_answers {s t : State} {p : SendPoint} (h : advanceSend p s = .next t) :
    (t.point ≠ none ∧ t.responses = s.responses) ∨ (t.point = none ∧ s.Answers t) := by
  obtain ⟨u, hu, ⟨q, rfl⟩ | ⟨st, r, -, rfl⟩⟩ := advanceSend_served h
  · exact .inl ⟨by simp, hu.responses⟩
  · exact .inr ⟨rfl, State.answers_of_code (q := r) (by simp [hu.responses])⟩

/-- A command that is run at rest answers and is at rest again, or it is `SEND` and has not answered yet. -/
theorem exec_answers_at_rest {i : Instr} {s t : State} (hp : s.point = none) (h : exec i s = .next t) :
    (t.point ≠ none ∧ t.responses = s.responses) ∨ (t.point = none ∧ s.Answers t) := by
  by_cases hi : i = .send
  · subst hi
    rw [execSend_next h]
    exact .inl ⟨by simp, rfl⟩
  have hpoint : t.point = none := by
    by_contra hne
    exact hi (by simpa using (exec_writtenBy h).point (hp ▸ hne))
  refine .inr ⟨hpoint, ?_⟩
  obtain ⟨q, -, rfl⟩ | ⟨d, hok⟩ | ⟨-, hfail⟩ | ⟨hsend, -⟩ := exec_answers h
  · exact State.answers_of_code (s.raise_responses q)
  · exact ⟨_, hok, Result.ok.code_mem, fun hne => absurd rfl hne⟩
  · exact State.answers_of_code hfail
  · exact absurd hsend hi

/-- Settles O54: every step that runs something either leaves a `SEND` going on or answers and leaves the block at
rest. -/
theorem oneResponsePerCommand : Obligations.OneResponsePerCommand := by
  intro s t hstep
  have hsplit : (t.point ≠ none ∧ t.responses = s.responses) ∨ (t.point = none ∧ s.Answers t) →
      (t.point ≠ none → t.responses = s.responses) ∧ (t.point = none → s.point ≠ none ∨ s.cmds ≠ [] → s.Answers t) := by
    rintro (⟨hne, hresp⟩ | ⟨hnone, hans⟩)
    · exact ⟨fun _ => hresp, fun hnone => absurd hnone hne⟩
    · exact ⟨fun hne => absurd hnone hne, fun _ _ => hans⟩
  obtain ⟨p, -, hadv⟩ | ⟨hp, hcmds, rfl⟩ | ⟨w, rest, i, hp, -, -, hexec⟩ | ⟨w, rest, why, hp, -, -, rfl⟩ :=
    step_cases hstep
  · exact hsplit (advanceSend_answers hadv)
  · exact ⟨fun _ => rfl, fun _ hran => by simp [hp, hcmds] at hran⟩
  · exact hsplit (exec_answers_at_rest (s := s.commandTaken) hp hexec)
  · exact hsplit (.inr ⟨hp, State.answers_of_code (s.commandTaken.raise_responses _)⟩)

end Sys2Proof.Machine
end

section
/-! PROOFS. The registers and buffers in range, the part of the invariant that does not speak of a running `SEND`, kept
by each named update and so by each command (10_state.md sections 2 and 3, 20_memory.md R40). -/

namespace Sys2Proof.Machine

/-- The clauses of `State.Inv` about the registers and buffers alone. -/
structure State.DataOk (s : State) : Prop where
  plen_le : s.plen.toNat ≤ payloadSize
  err_le : s.err.toNat ≤ 6
  table_wf : Memory.wf tableSize s.table = true
  pb_wf : Memory.wf payloadSize s.pb = true
  fb_wf : Memory.wf frameSize s.fb = true
  table_built : s.tv = true → s.table = builtTable
  payload_written : ∀ a, a < s.plen.toNat → (Cells.find a s.pb).isSome = true
  frame_whole : s.fb = [] ∨ ∃ seq p, p.length ≤ payloadSize ∧ s.fb = Cells.ofList (encodeFrame crcEntry seq p)

variable {s u : State}

theorem State.Inv.dataOk (h : s.Inv) : s.DataOk := { h with }

theorem State.DataOk.respond (h : s.DataOk) (r : Result) (d : Word) : (s.respond r d).DataOk := { h with }

theorem State.DataOk.raise (h : s.DataOk) (r : Result) : (s.raise r).DataOk := h.respond r _

theorem State.DataOk.buildTable (h : s.DataOk) : s.buildTable.DataOk :=
  { h with table_wf := builtTable_wf, table_built := fun _ => rfl }

theorem State.DataOk.ensureTable (h : s.DataOk) : s.ensureTable.DataOk := by
  rw [State.ensureTable_eq h.table_built]
  exact { h.buildTable with }

/-- The frame that `ENC` and `SEND` store is that of `Entry` (40_crc.md R82). -/
theorem State.DataOk.encodeFrame_eq (h : s.DataOk) :
    encodeFrame s.ensureTable.tableEntry s.seq s.payload = encodeFrame crcEntry s.seq s.payload :=
  encodeFrame_of_built (State.ensureTable_table_of_truthful h.table_built) s.seq s.payload

theorem State.DataOk.storeFrame (h : s.DataOk) {seq : Half} {p : List Byte} (hp : p.length ≤ payloadSize) :
    (s.storeFrame (encodeFrame crcEntry seq p)).DataOk :=
  { h with fb_wf := s.storeFrame_wf hp _ _, frame_whole := .inr ⟨seq, p, hp, rfl⟩ }

theorem State.DataOk.storeOwnFrame (h : s.DataOk) :
    (s.ensureTable.storeFrame (encodeFrame crcEntry s.seq s.payload)).DataOk :=
  h.ensureTable.storeFrame (s.length_payload.trans_le h.plen_le)

theorem toNat_plen_succ {n : BitVec 12} (h : n.toNat < payloadSize) : (n + 1#12).toNat = n.toNat + 1 := by
  unfold payloadSize at h
  simp only [BitVec.toNat_add, BitVec.toNat_ofNat]
  omega

theorem State.DataOk.push (h : s.DataOk) (b : Byte) (hlt : s.plen.toNat < payloadSize) :
    ({ s with pb := Cells.write s.plen.toNat b s.pb, plen := s.plen + 1#12 } : State).DataOk := by
  have hplen := toNat_plen_succ hlt
  refine { h with plen_le := hplen.trans_le hlt, pb_wf := Memory.wf_write b s.pb hlt h.pb_wf, payload_written := ?_ }
  intro a ha
  obtain rfl | hne := eq_or_ne a s.plen.toNat
  · simp
  · rw [Cells.find_write_other hne]
    exact h.payload_written a (by simp only [hplen] at ha; omega)

theorem State.DataOk.writeReg (h : s.DataOk) {r : Byte} {v : Half} (hu : s.writeReg r v = some u) : u.DataOk := by
  rw [State.writeReg_frame hu]
  exact { h with }

/-- Every command keeps the registers and buffers in range. -/
theorem exec_dataOk {i : Instr} {t : State} (h : s.DataOk) (hexec : exec i s = .next t) : t.DataOk := by
  cases i with
  | tbld => rw [execTbld_next hexec]; exact h.buildTable.respond _ _
  | cinit => rw [execCinit_next hexec]; exact { h with }
  | cbyte b => rw [execCbyte_next hexec]; exact { h.ensureTable with }
  | cfin => rw [execCfin_next hexec]; exact { h with }
  | csum => obtain ⟨-, c, -, rfl⟩ := execCsum_next hexec; exact { h.ensureTable with }
  | trd k => rw [execTrd_next hexec]; exact h.ensureTable.respond _ _
  | prst =>
    rw [execPrst_next hexec]
    exact { h with plen_le := Nat.zero_le _, payload_written := fun _ ha => absurd ha (Nat.not_lt_zero _) }
  | ppush b =>
    obtain ⟨hlt, rfl⟩ | ⟨-, rfl⟩ := execPpush_next hexec
    · exact (h.push b hlt).respond _ _
    · exact h.raise _
  | seqinc => rw [execSeqinc_next hexec]; exact { h with }
  | enc =>
    obtain ⟨-, rfl⟩ := execEnc_next hexec
    rw [h.encodeFrame_eq]
    exact h.storeOwnFrame.respond _ _
  | frd a => obtain ⟨-, rfl⟩ | ⟨-, rfl⟩ := execFrd_next hexec <;> exact h.respond _ _
  | sigw asserted =>
    obtain ⟨level, r, -, hr, rfl⟩ := execSigw_next hexec
    have hcode : r.code.toNat ≤ 6 := by obtain ⟨-, rfl⟩ | ⟨-, rfl⟩ := hr <;> decide
    exact { h with err_le := hcode }
  | send => rw [execSend_next hexec]; exact { h with }
  | rreg r => obtain ⟨x, -, rfl⟩ | ⟨-, rfl⟩ := execRreg_next hexec <;> exact h.respond _ _
  | wreg r v =>
    obtain ⟨u, hu, rfl⟩ | ⟨-, rfl⟩ := execWreg_next hexec
    · exact (h.writeReg hu).respond _ _
    · exact h.raise _

end Sys2Proof.Machine
end

section
/-! PROOFS. The invariant at rest: `STATE` and `ACKB` between commands, and at the end of a `SEND` (10_state.md R14;
42_handshake.md R123). -/

namespace Sys2Proof.Machine

/-- At rest the invariant asks nothing of a poll, a frame sent or a line. -/
theorem State.DataOk.inv_of_rest {s : State} (h : s.DataOk) (hp : s.point = none) (hphase : s.phaseOk) : s.Inv :=
  { h with
    phase := hphase
    polls := by simp [State.pollsOk, hp]
    sent := by simp [State.sentOk, hp]
    line_level := by simp [State.lineOk, hp] }

/-- A command other than `SEND` leaves the block at rest as it found it. -/
theorem State.Inv.exec_of_ne_send {s t : State} {i : Instr} (h : s.Inv) (hp : s.point = none) (hi : i ≠ .send)
    (hexec : exec i s = .next t) : t.Inv := by
  have hw := exec_writtenBy hexec
  have hsend : some i ≠ some Instr.send := by simpa using hi
  have hpoint : t.point = s.point := not_imp_comm.mp hw.point hsend
  have hstate : t.state = s.state := not_imp_comm.mp hw.state hsend
  have hackb : t.ackb = s.ackb := not_imp_comm.mp hw.ackb hsend
  have hphase : t.phaseOk := by
    have := h.phase
    rwa [State.phaseOk, ← hpoint, ← hstate, ← hackb] at this
  exact (exec_dataOk h.dataOk hexec).inv_of_rest (hpoint.trans hp) hphase

/-- `SEND` starts before the assert with no exchange counted (42_handshake.md R124). -/
theorem State.Inv.exec_send {s t : State} (h : s.Inv) (hexec : exec .send s = .next t) : t.Inv := by
  have hdata := exec_dataOk h.dataOk hexec
  rw [execSend_next hexec] at hdata ⊢
  exact { hdata with phase := rfl, polls := rfl, sent := trivial, line_level := trivial }

theorem State.Inv.exec {s t : State} {i : Instr} (h : s.Inv) (hp : s.point = none) (hexec : exec i s = .next t) :
    t.Inv := by
  by_cases hi : i = .send
  · exact h.exec_send (hi ▸ hexec)
  · exact h.exec_of_ne_send hp hi hexec

/-- A `SEND` ends in one of the rest states, with an `ERR` that R15 lists. -/
theorem State.DataOk.inv_finish {u : State} {st : PacketState} {r : Result} (h : u.DataOk) (hr : r.code.toNat ≤ 6)
    (hphase : (u.finish st r).phaseOk) : (u.finish st r).Inv :=
  State.DataOk.inv_of_rest { h with err_le := hr } rfl hphase

theorem State.DataOk.inv_faulted {u : State} {r : Result} (h : u.DataOk) (hr : r.code.toNat ≤ 6) :
    (u.finish .faulted r).Inv :=
  h.inv_finish hr (.inr (.inr (.inr rfl)))

end Sys2Proof.Machine
end

section
/-! PROOFS. The invariant while a `SEND` runs, point by point (42_handshake.md R124 to R131, R134). -/

namespace Sys2Proof.Machine

/-! A delay and the channel leave every line as it is (10_state.md R31). -/

@[simp] theorem State.delay_lineLevel (s : State) (k : Half) : (s.delay k).lineLevel = s.lineLevel :=
  funext fun l => State.lineLevel_append (s.delay_trace k) l

@[simp] theorem State.chanWrite_lineLevel (s : State) (bytes : List Byte) :
    (s.chanWrite bytes).lineLevel = s.lineLevel :=
  funext fun l => State.lineLevel_append (s.chanWrite_trace bytes) l

@[simp] theorem State.chanRead_lineLevel (s : State) : s.chanRead.lineLevel = s.lineLevel :=
  funext fun l => State.lineLevel_append s.chanRead_trace l

variable {s t : State}

/-! The poll count at the points of a running `SEND` (10_state.md R21, 42_handshake.md R131). -/

theorem State.Inv.pollcnt_before_poll {p : SendPoint} (h : s.Inv) (hp : s.point = some p)
    (hpre : p.packetState ≠ .awaitingAck) : s.pollcnt = 0#16 := by
  have hpolls := h.polls
  rw [State.pollsOk, hp] at hpolls
  cases p with
  | assertLine | settle | writeFrame | deassertLine => exact hpolls
  | pollWrite | pollRead => exact absurd rfl hpre

/-- A bound that is set and not reached is above the poll count. -/
theorem State.Inv.pollcnt_lt_of_not_reached (h : s.Inv) (hp : s.point = some .pollWrite)
    (hbound : s.pollBoundReached = false) (hmax : s.pollmax ≠ 0#16) : s.pollcnt.toNat < s.pollmax.toNat := by
  have hpolls := h.polls
  rw [State.pollsOk, hp] at hpolls
  refine lt_of_le_of_ne (hpolls hmax) fun heq => ?_
  simp [s.pollBoundReached_iff.mpr ⟨hmax, BitVec.eq_of_toNat_eq heq⟩] at hbound

theorem State.Inv.pollcnt_lt_before_read (h : s.Inv) (hp : s.point = some .pollRead) (hmax : s.pollmax ≠ 0#16) :
    s.pollcnt.toNat < s.pollmax.toNat := by
  have hpolls := h.polls
  rw [State.pollsOk, hp] at hpolls
  exact hpolls hmax

/-- While a `SEND` polls, `FB` is the frame it has sent (42_handshake.md R133). -/
theorem State.Inv.frame_while_polling (h : s.Inv) (hp : s.point = some .pollWrite ∨ s.point = some .pollRead) :
    s.fb = Cells.ofList (encodeFrame crcEntry s.seq s.payload) := by
  obtain hp | hp := hp <;> simpa only [State.sentOk, hp] using h.sent

/-- While a `SEND` polls, the line is high (42_handshake.md R134). -/
theorem State.Inv.line_high_while_polling (h : s.Inv) (hp : s.point = some .pollWrite ∨ s.point = some .pollRead) :
    s.lineLevel s.line = .high := by
  obtain hp | hp := hp <;> simpa [State.lineOk, hp] using h.line_level

/-- Before the frame is written the line is low (42_handshake.md R134). -/
theorem State.Inv.line_low_before_frame (h : s.Inv) (hp : s.point = some .writeFrame) :
    s.lineLevel s.line = .low := by
  simpa [State.lineOk, hp] using h.line_level

/-! Each point keeps the invariant. -/

theorem sendAssertLine_inv (h : s.Inv) (hp : s.point = some .assertLine) (hstep : sendAssertLine s = .next t) :
    t.Inv := by
  have hpolls := h.pollcnt_before_poll hp (by decide)
  have hstate : s.state = .selecting := h.state_of_point hp
  have hdata : (s.sigWrite s.line .low).DataOk := { h.dataOk with }
  obtain ⟨-, rfl⟩ | ⟨hok, rfl⟩ := sendAssertLine_next hstep
  · exact hdata.inv_faulted (by decide)
  · have hlow : (s.sigWrite s.line .low).lineLevel s.line = .low := by simp [State.sigWrite_lineLevel, hok]
    exact { hdata with phase := hstate, polls := hpolls, sent := trivial, line_level := hlow }

theorem sendSettle_inv (h : s.Inv) (hp : s.point = some .settle) (hstep : sendSettle s = .next t) : t.Inv := by
  have hpolls := h.pollcnt_before_poll hp (by decide)
  have hlow : (s.delay s.settle).lineLevel s.line = .low := by simp [h.line_low_before_settle hp]
  obtain rfl := sendSettle_next hstep
  exact { h.dataOk with phase := rfl, polls := hpolls, sent := trivial, line_level := hlow }

theorem sendWriteFrame_inv (h : s.Inv) (hp : s.point = some .writeFrame) (hstep : sendWriteFrame s = .next t) :
    t.Inv := by
  have hpolls := h.pollcnt_before_poll hp (by decide)
  have hlow := h.line_low_before_frame hp
  have hstate : s.state = .transmitting := h.state_of_point hp
  obtain ⟨-, f, rfl, hend⟩ := sendWriteFrame_next hstep
  rw [h.dataOk.encodeFrame_eq] at hend
  have hdata : ((s.ensureTable.storeFrame (encodeFrame crcEntry s.seq s.payload)).chanWrite
      (encodeFrame crcEntry s.seq s.payload)).DataOk := { h.dataOk.storeOwnFrame with }
  obtain ⟨hacc, rfl⟩ | ⟨-, rfl⟩ := hend
  · obtain ⟨n, hn, hw⟩ := frameAccepted_iff.mp hacc
    exact { hdata with
      phase := by simp [State.phaseOk, hstate, SendPoint.packetState]
      polls := by simp [State.pollsOk, hpolls]
      sent := by simpa [State.sentOk] using ⟨n, hn, s.ensureTable_writeAnswer ▸ hw⟩
      line_level := by simp [State.lineOk, hlow] }
  · exact hdata.inv_faulted (by decide)

theorem sendDeassertLine_inv (h : s.Inv) (hp : s.point = some .deassertLine)
    (hstep : sendDeassertLine s = .next t) : t.Inv := by
  have hpolls := h.pollcnt_before_poll hp (by decide)
  have hdata : (s.sigWrite s.line .high).DataOk := { h.dataOk with }
  obtain ⟨hfb, -⟩ : s.fb = Cells.ofList (encodeFrame crcEntry s.seq s.payload) ∧ _ := by
    simpa only [State.sentOk, hp] using h.sent
  obtain ⟨-, rfl⟩ | ⟨hok, rfl⟩ := sendDeassertLine_next hstep
  · exact hdata.inv_faulted (by decide)
  · have hhigh : (s.sigWrite s.line .high).lineLevel s.line = .high := by simp [State.sigWrite_lineLevel, hok]
    exact { hdata with
      phase := rfl
      polls := by simp [State.pollsOk, hpolls]
      sent := hfb
      line_level := hhigh }

theorem sendPollWrite_inv (h : s.Inv) (hp : s.point = some .pollWrite) (hstep : sendPollWrite s = .next t) :
    t.Inv := by
  have hstate : s.state = .awaitingAck := h.state_of_point hp
  have hfb := h.frame_while_polling (.inl hp)
  have hhigh : (s.chanWrite [dummyByte]).lineLevel s.line = .high := by simp [h.line_high_while_polling (.inl hp)]
  have hdata : (s.chanWrite [dummyByte]).DataOk := { h.dataOk with }
  obtain ⟨-, rfl⟩ | ⟨-, -, rfl⟩ | ⟨hbound, -, rfl⟩ := sendPollWrite_next hstep
  · exact h.dataOk.inv_faulted (by decide)
  · exact hdata.inv_faulted (by decide)
  · exact { hdata with
      phase := hstate, polls := h.pollcnt_lt_of_not_reached hp hbound, sent := hfb, line_level := hhigh }

theorem sendPollRead_inv (h : s.Inv) (hp : s.point = some .pollRead) (hstep : sendPollRead s = .next t) : t.Inv := by
  have hstate : s.state = .awaitingAck := h.state_of_point hp
  have hfb := h.frame_while_polling (.inr hp)
  have hhigh : s.chanRead.lineLevel s.line = .high := by simp [h.line_high_while_polling (.inr hp)]
  have hread : s.chanRead.DataOk := { h.dataOk with }
  obtain ⟨-, rfl⟩ | ⟨b, -, rfl⟩ := sendPollRead_next hstep
  · exact hread.inv_faulted (by decide)
  have hdata : (s.chanRead.countExchange b).DataOk := { h.dataOk with }
  obtain ⟨hclass, h'⟩ | ⟨hclass, h'⟩ | ⟨-, h'⟩ | ⟨-, h'⟩ := s.chanRead.exchanged_cases b <;> rw [h']
  · exact hdata.inv_finish (by decide) (.inr (.inl ⟨rfl, ackClass_eq_ack_iff.mp hclass⟩))
  · exact hdata.inv_finish (by decide) (.inr (.inr (.inl ⟨rfl, ackClass_eq_nack_iff.mp hclass⟩)))
  · have hle : s.pollmax ≠ 0#16 → (pollSucc s.pollcnt).toNat ≤ s.pollmax.toNat := fun hmax => by
      rw [toNat_pollSucc]
      exact (min_le_left _ _).trans (h.pollcnt_lt_before_read hp hmax)
    exact { hdata with phase := hstate, polls := hle, sent := hfb, line_level := hhigh }
  · exact hdata.inv_faulted (by decide)

theorem advanceSend_inv {p : SendPoint} (h : s.Inv) (hp : s.point = some p) (hstep : advanceSend p s = .next t) :
    t.Inv := by
  cases p with
  | assertLine => exact sendAssertLine_inv h hp hstep
  | settle => exact sendSettle_inv h hp hstep
  | writeFrame => exact sendWriteFrame_inv h hp hstep
  | deassertLine => exact sendDeassertLine_inv h hp hstep
  | pollWrite => exact sendPollWrite_inv h hp hstep
  | pollRead => exact sendPollRead_inv h hp hstep

/-- Taking the host's word keeps the invariant: it says nothing of the words to come. -/
theorem State.Inv.commandTaken (h : s.Inv) : s.commandTaken.Inv :=
  { h with }

/-- A command fault keeps the invariant: it adds a response and nothing else (60_exceptions.md R172). -/
theorem State.Inv.raise (h : s.Inv) (r : Result) : (s.raise r).Inv :=
  { h with }

/-- Settles O48: a running `SEND` keeps the invariant at each of its points, and a command keeps it at rest. -/
theorem invariantKeptByStep : Obligations.InvariantKeptByStep := by
  intro s t h hstep
  obtain ⟨p, hp, hadv⟩ | ⟨-, -, rfl⟩ | ⟨w, rest, i, hp, -, -, hexec⟩ | ⟨w, rest, why, -, -, -, rfl⟩ := step_cases hstep
  · exact advanceSend_inv h hp hadv
  · exact h
  · exact h.commandTaken.exec hp hexec
  · exact h.commandTaken.raise _

end Sys2Proof.Machine
end

section
/-! PROOFS. The invariant at reset, and what it gives: a step never stops, rest states are the only ones `STATUS` shows,
and the line's level when a `SEND` ends (70_reset_and_hazards.md R200; 60_exceptions.md section 4; 10_state.md R14,
R31). -/

namespace Sys2Proof.Machine

/-- Settles O47: at reset nothing has been written and no `SEND` runs. -/
theorem invariantHoldsAtReset : Obligations.InvariantHoldsAtReset := by
  obtain ⟨htable, hpb, hfb⟩ := State.reset_buffers_wf
  exact State.DataOk.inv_of_rest
    { plen_le := Nat.zero_le _, err_le := Nat.zero_le _, table_wf := htable, pb_wf := hpb, fb_wf := hfb
      table_built := fun h => by cases h
      payload_written := fun _ ha => absurd ha (Nat.not_lt_zero _)
      frame_whole := .inl rfl } rfl (.inl rfl)

/-! Where a step stops: in `payloadLength` and nowhere else, log entry 10. -/

/-- Where `PLEN` is a length of the buffer every command answers. -/
theorem exec_answers_next {s : State} (h : s.plen.toNat ≤ payloadSize) (i : Instr) : ∃ t, exec i s = .next t := by
  cases i with
  | tbld => exact ⟨_, rfl⟩
  | cinit => exact ⟨_, rfl⟩
  | cbyte b => exact ⟨_, rfl⟩
  | cfin => exact ⟨_, rfl⟩
  | csum => exact ⟨_, execCsum_eq h⟩
  | trd k => exact ⟨_, rfl⟩
  | prst => exact ⟨_, rfl⟩
  | ppush b => simp only [exec, execPpush]; split <;> exact ⟨_, rfl⟩
  | seqinc => exact ⟨_, rfl⟩
  | enc => exact ⟨_, execEnc_eq h⟩
  | frd a => simp only [exec, execFrd]; split <;> exact ⟨_, rfl⟩
  | sigw asserted => exact ⟨_, rfl⟩
  | send => exact ⟨_, rfl⟩
  | rreg r => simp only [exec, execRreg]; split <;> exact ⟨_, rfl⟩
  | wreg r v => simp only [exec, execWreg]; split <;> exact ⟨_, rfl⟩

/-- Where `PLEN` is a length of the buffer every point of a running `SEND` goes on or ends. -/
theorem advanceSend_answers_next {s : State} (h : s.plen.toNat ≤ payloadSize) (p : SendPoint) :
    ∃ t, advanceSend p s = .next t := by
  cases p with
  | assertLine => exact ⟨_, rfl⟩
  | settle => exact ⟨_, rfl⟩
  | writeFrame => exact ⟨_, sendWriteFrame_eq h rfl⟩
  | deassertLine => exact ⟨_, rfl⟩
  | pollWrite => exact ⟨_, rfl⟩
  | pollRead => exact ⟨_, rfl⟩

/-- Between commands the word is taken and its command's meaning runs (20_memory.md R44, 30_encoding.md R73). -/
theorem step_of_command {s : State} {w : Word} {rest : List Word} {i : Instr} (hp : s.point = none)
    (hcmds : s.cmds = w :: rest) (hdec : decode w = .command i) : step s = exec i s.commandTaken := by
  simp [step, hp, State.takeCommand_cons hcmds, hdec]

/-- Settles O7: taking the word leaves the rest of the words to come and changes nothing else. -/
theorem stepRunsDecodedCommand : Obligations.StepRunsDecodedCommand := by
  intro s w rest i hp hcmds hdec
  rw [step_of_command hp hcmds hdec, State.commandTaken_eq hcmds]

/-- Settles O8: there is no word to take. -/
theorem stepWaitsForHost : Obligations.StepWaitsForHost :=
  fun _ => step_of_no_command

/-- Settles O49: with `PLEN` in range no command and no point stops, and waiting and an illegal word never do. -/
theorem stepNeverStops : Obligations.StepNeverStops := by
  intro s h
  cases hp : s.point with
  | some p =>
    rw [step_of_point hp]
    exact advanceSend_answers_next h.plen_le p
  | none =>
    cases hcmds : s.cmds with
    | nil => exact ⟨s, step_of_no_command hp hcmds⟩
    | cons w rest =>
      cases hdec : decode w with
      | command i =>
        rw [step_of_command hp hcmds hdec]
        exact exec_answers_next h.commandTaken.plen_le i
      | illegal why => exact ⟨_, step_of_illegal hp hcmds hdec⟩

/-- Beyond the buffer's length there is no payload to read. -/
theorem State.payload?_eq_none {s : State} (h : payloadSize < s.plen.toNat) : s.payload? = none := by
  simp [State.payload?, h]

/-- Settles O28: each of the three reads the payload after `EnsureTable`, which leaves `PLEN` alone. -/
theorem payloadLengthStops : Obligations.PayloadLengthStops := by
  intro s h
  have hnone : s.ensureTable.payload? = none := 
    State.payload?_eq_none (by rw [State.ensureTable_plen]; exact h)
  refine ⟨by simp [exec, execCsum, hnone], by simp [exec, execEnc, hnone], fun hp => ?_⟩
  simp [step_of_point hp, advanceSend, sendWriteFrame, hnone]

/-- Settles O30: the packet is under way and no request has been made. -/
theorem sendStartsPacket : Obligations.SendStartsPacket :=
  ⟨by decide, fun _ => rfl⟩

/-- Settles O32: one event, whatever `SETTLE` is. -/
theorem sendWaitsSettleDelay : Obligations.SendWaitsSettleDelay :=
  fun _ => step_of_point

/-- The codes of the rest states, the only ones to be seen between commands (10_state.md R14). -/
theorem PacketState.code_of_rest {st : PacketState} (h : st ∈ [.idle, .acked, .nacked, .faulted]) :
    st.code ∈ [0#3, 4#3, 5#3, 6#3] := by
  revert st; simp [PacketState.code]

/-- `STATUS` is the code of `STATE`, `TV` above it, and zeros (10_state.md R14). -/
theorem State.readReg_status_fields (s : State) :
    (s.readReg .status).extractLsb' 0 3 = s.state.code ∧ (s.readReg .status).extractLsb' 4 28 = 0#28 ∧
      (s.readReg .status).getLsbD 3 = s.tv := by
  simp only [State.readReg, State.status]
  cases s.tv <;> cases s.state <;> decide

/-- Settles O56: at rest `STATE` is a rest state, and `STATUS` is its code with `TV` above it. -/
theorem statusShowsRestStatesOnly : Obligations.StatusShowsRestStatesOnly := by
  intro s h hp
  obtain ⟨hcode, hhigh, htv⟩ := s.readReg_status_fields
  refine ⟨s.readReg .status, exec_rreg_of_ofIndex_eq_some s rfl, ?_, hhigh, htv⟩
  rw [hcode]
  exact PacketState.code_of_rest (h.state_at_rest hp)

/-- Settles O44: a failed write of the line leaves it unknown, and the other steps leave the level that the invariant
gives at their point. -/
theorem lineLevelAfterSend : Obligations.LineLevelAfterSend := by
  intro s t p h hp hstep hend
  rw [step_of_point hp] at hstep
  cases p with
  | assertLine =>
    obtain ⟨hfail, rfl⟩ | ⟨-, rfl⟩ := sendAssertLine_next hstep
    · simp [Result.code, State.sigWrite_lineLevel, hfail]
    · simp at hend
  | settle =>
    obtain rfl := sendSettle_next hstep
    simp at hend
  | writeFrame =>
    have hlow := h.line_low_before_frame hp
    obtain ⟨-, f, -, ⟨-, rfl⟩ | ⟨-, rfl⟩⟩ := sendWriteFrame_next hstep
    · simp at hend
    · simp [Result.code, hlow]
  | deassertLine =>
    obtain ⟨hfail, rfl⟩ | ⟨-, rfl⟩ := sendDeassertLine_next hstep
    · simp [Result.code, State.sigWrite_lineLevel, hfail]
    · simp at hend
  | pollWrite =>
    have hhigh := h.line_high_while_polling (.inl hp)
    obtain ⟨-, rfl⟩ | ⟨-, -, rfl⟩ | ⟨-, -, rfl⟩ := sendPollWrite_next hstep <;> simp [hhigh]
  | pollRead =>
    have hhigh := h.line_high_while_polling (.inr hp)
    obtain ⟨-, rfl⟩ | ⟨b, -, rfl⟩ := sendPollRead_next hstep
    · simp [hhigh]
    · obtain ⟨-, h'⟩ | ⟨-, h'⟩ | ⟨-, h'⟩ | ⟨-, h'⟩ := s.chanRead.exchanged_cases b <;> simp [h', hhigh]

end Sys2Proof.Machine
end

section
/-! PROOFS. The byte step of the checksum as eight bit steps: `Shift1` distributes over exclusive-or, so the low byte
goes through the table and the rest is shifted out of the way (40_crc.md R80, R83). -/

namespace Sys2Proof.Machine

theorem shift1_eq (c : Word) : shift1 c = (c >>> 1) ^^^ (if c.getLsbD 0 then crcPoly else 0#32) := by
  unfold shift1
  split <;> simp

theorem shift1_xor (x y : Word) : shift1 (x ^^^ y) = shift1 x ^^^ shift1 y := by
  have hmask : (if (x ^^^ y).getLsbD 0 then crcPoly else 0#32) =
      (if x.getLsbD 0 then crcPoly else 0#32) ^^^ (if y.getLsbD 0 then crcPoly else 0#32) := by
    rw [BitVec.getLsbD_xor]
    cases x.getLsbD 0 <;> cases y.getLsbD 0 <;> simp
  rw [shift1_eq, shift1_eq x, shift1_eq y, hmask, BitVec.ushiftRight_xor_distrib]
  ac_rfl

theorem shift8_xor (x y : Word) : shift8 (x ^^^ y) = shift8 x ^^^ shift8 y := by
  simp only [shift8, shift1_xor]

/-- Where the bit that falls out is 0, `Shift1` is a shift. -/
theorem shift1_ushiftRight {x : Word} {k : Nat} (h : x.getLsbD k = false) : shift1 (x >>> k) = x >>> (k + 1) := by
  simp [shift1, h, BitVec.shiftRight_add]

/-- A word whose low byte is 0 is shifted down by eight steps. -/
theorem shift8_of_low_zero {x : Word} (h : ∀ k < 8, x.getLsbD k = false) : shift8 x = x >>> 8 := by
  have hstep : ∀ k < 8, shift1 (x >>> k) = x >>> (k + 1) := fun k hk => shift1_ushiftRight (h k hk)
  have h0 : shift1 x = x >>> 1 := by simpa using hstep 0 (by decide)
  simp only [shift8, h0, hstep, Nat.reduceLT, Nat.reduceAdd]

/-- A word is its low byte and the bits above it. -/
theorem low_xor_high (x : Word) : (x.extractLsb' 0 8).setWidth 32 ^^^ (x >>> 8 <<< 8) = x := by
  ext i hi
  by_cases h : i < 8
  · simp [h, BitVec.getLsbD_eq_getElem hi]
  · simp [h, show 8 + (i - 8) = i by omega, BitVec.getLsbD_eq_getElem hi]

/-- Eight bit steps are one look in the table and one shift by eight. -/
theorem shift8_eq_crcEntry_xor (x : Word) : shift8 x = crcEntry (x.extractLsb' 0 8).toNat ^^^ (x >>> 8) := by
  have hhigh : shift8 (x >>> 8 <<< 8) = x >>> 8 := by
    rw [shift8_of_low_zero (by simp +contextual)]
    ext i hi
    simpa using x.lt_of_getLsbD
  conv_lhs => rw [← low_xor_high x, shift8_xor, hhigh]
  rw [crcEntry, BitVec.ofNat_toNat]

/-- Settles O11: the byte that is folded in has no bits above the low byte, so the shifted part is that of the
accumulator. -/
theorem crcStepIsEightShifts : Obligations.CrcStepIsEightShifts := by
  intro a b
  have hshift : (a ^^^ b.setWidth 32) >>> 8 = a >>> 8 := by
    rw [BitVec.ushiftRight_xor_distrib]
    ext i hi
    simp
  rw [shift8_eq_crcEntry_xor, hshift, crcStep]

end Sys2Proof.Machine
end

section
/-! PROOFS. `CINIT`, a `CBYTE` for each byte and `CFIN` compute `CRC32` of the bytes (40_crc.md section 2). -/

namespace Sys2Proof.Machine

/-- A run of one command at rest, when its meaning is known. -/
theorem runSteps_command {s t : State} {w : Word} {rest : List Word} {i : Instr} (k : Nat) (hp : s.point = none)
    (hcmds : s.cmds = w :: rest) (hdec : decode w = .command i) (hexec : exec i s.commandTaken = .next t) :
    runSteps (k + 1) s = runSteps k t :=
  runSteps_succ k ((step_of_command hp hcmds hdec).trans hexec)

/-- What a `CBYTE` for each of `bytes` leaves, from `s` with `rest` still to be issued (40_crc.md R86). -/
structure State.Folded (bytes : List Byte) (rest : List Word) (s t : State) : Prop where
  point : t.point = none
  cmds : t.cmds = rest
  crcacc : t.crcacc = bytes.foldl (crcStep crcEntry) s.crcacc
  responses : t.responses = s.responses ++ List.replicate bytes.length ⟨0x00#8, 0#32⟩

/-- A `CBYTE` for each byte folds the bytes into `CRCACC`, from every state whose `TV` tells the truth. -/
theorem runSteps_cbytes (bytes : List Byte) (rest : List Word) {s : State} (hp : s.point = none)
    (htv : s.tv = true → s.table = builtTable)
    (hcmds : s.cmds = bytes.map (fun b => 0x12000000#32 ||| b.setWidth 32) ++ rest) :
    ∃ t, runSteps bytes.length s = .next t ∧ s.Folded bytes rest t := by
  induction bytes generalizing s with
  | nil => exact ⟨s, rfl, hp, hcmds, rfl, by simp⟩
  | cons b bs ih =>
    obtain ⟨hdec, hexec⟩ := cbyteFoldsByte b
    have hrun := runSteps_command bs.length hp hcmds hdec (hexec s.commandTaken htv)
    obtain ⟨t, ht, hfold⟩ := ih (s := { s.commandTaken with
      table := builtTable, tv := true, crcacc := crcStep crcEntry s.crcacc b,
      responses := s.responses ++ [⟨0x00#8, 0#32⟩] }) hp (fun _ => rfl) (by simp [hcmds])
    refine ⟨t, hrun.trans ht, hfold.point, hfold.cmds, hfold.crcacc, ?_⟩
    rw [hfold.responses, List.length_cons, List.replicate_succ, List.append_assoc]
    rfl

/-- Settles O18: `CINIT` sets the initial accumulator, the `CBYTE`s fold the bytes, and `CFIN` applies the final
exclusive-or. -/
theorem streamedChecksumIsCrc32 : Obligations.StreamedChecksumIsCrc32 := by
  intro bytes s rest hinv hp hcmds
  obtain ⟨hdecInit, hinit⟩ := cinitStartsChecksum
  obtain ⟨hdecFin, hfin⟩ := cfinGivesChecksum
  have hfirst := runSteps_command (bytes.length + 1) hp hcmds hdecInit (hinit s.commandTaken)
  obtain ⟨u, hu, hfold⟩ := runSteps_cbytes bytes (0x13000000#32 :: rest) (s := { s.commandTaken with
    crcacc := 0xFFFFFFFF#32, responses := s.responses ++ [⟨0x00#8, 0#32⟩] }) hp hinv.table_built (by simp [hcmds])
  have hlast := runSteps_command 0 hfold.point hfold.cmds hdecFin (hfin u.commandTaken)
  have hcrc : u.crcacc ^^^ 0xFFFFFFFF#32 = crc32 crcEntry bytes := by rw [hfold.crcacc]; rfl
  refine ⟨_, hfirst.trans ((runSteps_add _ 1 hu).trans hlast), by simp [hfold.cmds], hcrc, ?_⟩
  simp [hfold.responses, hcrc, List.replicate_succ]

end Sys2Proof.Machine
end

section
/-! PROOFS. `PPUSH`, and the payload that `PRST`, `PPUSH`es and `ENC` frame (41_frame.md R101, R102, R105;
30_encoding.md section 5). -/

namespace Sys2Proof.Machine

/-- The payload with one byte more (41_frame.md R102). -/
theorem State.payload_push {s : State} (b : Byte) (h : s.plen.toNat < payloadSize) :
    ({ s with pb := Cells.write s.plen.toNat b s.pb, plen := s.plen + 1#12 } : State).payload = s.payload ++ [b] := by
  have hbelow : ∀ a ∈ List.range s.plen.toNat,
      ({ s with pb := Cells.write s.plen.toNat b s.pb, plen := s.plen + 1#12 } : State).payloadByte a =
        s.payloadByte a := fun a ha => by
    simp [State.payloadByte, Cells.find_write_other (List.mem_range.mp ha).ne]
  rw [State.payload, toNat_plen_succ h, List.range_succ, List.map_append, List.map_congr_left hbelow]
  simp [State.payload, State.payloadByte]

theorem decode_ppushWord (b : Byte) : decode (0x21000000#32 ||| b.setWidth 32) = .command (.ppush b) :=
  decode_byteWord (op := 0x21#8) (fun w h => by simp [decode, h]) b

theorem exec_ppush_of_lt {s : State} (b : Byte) (h : s.plen.toNat < payloadSize) :
    exec (.ppush b) s =
      .next ({ s with pb := Cells.write s.plen.toNat b s.pb, plen := s.plen + 1#12 }.respond .ok 0#32) :=
  if_pos h

theorem exec_ppush_of_le {s : State} (b : Byte) (h : payloadSize ≤ s.plen.toNat) :
    exec (.ppush b) s = .next (s.raise .payloadOverflow) :=
  if_neg h.not_gt

/-- Settles O22: the by-value check of `PPUSH` separates the lengths with room from those without. -/
theorem ppushAppendsOneByte : Obligations.PpushAppendsOneByte := by
  refine fun b => ⟨decode_ppushWord b, fun s => ⟨fun h => ?_, fun h => exec_ppush_of_le b h⟩⟩
  refine ⟨_, exec_ppush_of_lt b h, rfl, toNat_plen_succ h, ?_, fun a ha => ?_⟩
  · simp [State.payloadByte]
  · simp [State.payloadByte, Cells.find_write_other ha]

/-- What a `PPUSH` for each of `bytes` leaves, from `s` with `rest` still to be issued (41_frame.md R102). -/
structure State.Pushed (bytes : List Byte) (rest : List Word) (s t : State) : Prop where
  point : t.point = none
  cmds : t.cmds = rest
  payload : t.payload = s.payload ++ bytes
  seq : t.seq = s.seq
  table : t.table = s.table
  tv : t.tv = s.tv

/-- A `PPUSH` for each byte appends the bytes to the payload, while there is room for them. -/
theorem runSteps_ppushes (bytes : List Byte) (rest : List Word) {s : State} (hp : s.point = none)
    (hroom : s.plen.toNat + bytes.length ≤ payloadSize)
    (hcmds : s.cmds = bytes.map (fun b => 0x21000000#32 ||| b.setWidth 32) ++ rest) :
    ∃ t, runSteps bytes.length s = .next t ∧ s.Pushed bytes rest t := by
  induction bytes generalizing s with
  | nil => exact ⟨s, rfl, hp, hcmds, by simp, rfl, rfl, rfl⟩
  | cons b bs ih =>
    rw [List.length_cons] at hroom
    have hlt : s.plen.toNat < payloadSize := by omega
    have hrun := runSteps_command bs.length hp hcmds (decode_ppushWord b)
      (exec_ppush_of_lt (s := s.commandTaken) b hlt)
    have hplen : (s.plen + 1#12).toNat + bs.length ≤ payloadSize := by rw [toNat_plen_succ hlt]; omega
    obtain ⟨t, ht, hpush⟩ := ih (s := { s.commandTaken with
      pb := Cells.write s.plen.toNat b s.pb, plen := s.plen + 1#12 }.respond .ok 0#32) hp hplen (by simp [hcmds])
    refine ⟨t, hrun.trans ht, hpush.point, hpush.cmds, ?_, hpush.seq, hpush.table, hpush.tv⟩
    rw [hpush.payload, List.append_cons]
    exact congrArg (· ++ bs) (s.commandTaken.payload_push b hlt)

/-- Settles O26: `PRST` empties the payload, the `PPUSH`es append the bytes, and `ENC` frames what is there. -/
theorem loadedPayloadIsFramed : Obligations.LoadedPayloadIsFramed := by
  intro bytes s rest hinv hp hlen hcmds
  obtain ⟨hdecPrst, hprst⟩ := prstEmptiesPayload
  obtain ⟨hdecEnc, henc⟩ := encBuildsFrame
  have hfirst := runSteps_command (bytes.length + 1) hp hcmds hdecPrst (hprst s.commandTaken)
  obtain ⟨u, hu, hpush⟩ := runSteps_ppushes bytes (0x23000000#32 :: rest) (s := { s.commandTaken with
    plen := 0#12, responses := s.responses ++ [⟨0x00#8, 0#32⟩] }) hp (by simpa [payloadSize] using hlen)
    (by simp [hcmds])
  have hpayload : u.payload = bytes := hpush.payload
  have hplen : u.plen.toNat ≤ 2048 := by rwa [← u.length_payload, hpayload]
  have htv : u.tv = true → u.table = builtTable := by rw [hpush.tv, hpush.table]; exact hinv.table_built
  obtain ⟨t, ht, hframe, hbytes⟩ := henc u.commandTaken hplen htv
  have hlast := runSteps_command 0 hpush.point hpush.cmds hdecEnc ht
  refine ⟨t, hfirst.trans ((runSteps_add _ 1 hu).trans hlast), ?_, ?_, ?_⟩
  · rw [hframe]; simp [hpush.cmds]
  · rw [← hpayload, hframe]; rfl
  · intro a ha
    rw [← hbytes a ha, ← hpayload, ← show u.seq = s.seq from hpush.seq]
    rfl

end Sys2Proof.Machine
end

section
/-! PROOFS. What the frame depends on (41_frame.md section 1). -/

namespace Sys2Proof.Machine

/-- Settles O20: the payload field pads with the same byte, to the same length. -/
theorem trailingPadBytesAreInvisible : Obligations.TrailingPadBytesAreInvisible := by
  intro seq p k h
  have hfield : payloadField (p ++ List.replicate k 0xFF#8) = payloadField p := by
    rw [payloadField, payloadField, List.append_assoc, padByte, List.replicate_append_replicate, List.length_append,
      List.length_replicate]
    congr 2
    unfold payloadSize
    omega
  rw [encodeFrame, encodeFrame, hfield]

/-- Settles O27: either `ENC` stores the frame of its `SEQ` and payload, and these are the same. -/
theorem frameDependsOnSeqAndPayloadOnly : Obligations.FrameDependsOnSeqAndPayloadOnly := by
  intro s s' h h' hseq hplen hbytes
  obtain ⟨-, henc⟩ := encBuildsFrame
  obtain ⟨t, ht, -, hframe⟩ := henc s h.plen_le h.table_built
  obtain ⟨t', ht', -, hframe'⟩ := henc s' h'.plen_le h'.table_built
  have hpayload : (List.range s.plen.toNat).map s.payloadByte = (List.range s'.plen.toNat).map s'.payloadByte := by
    rw [← hplen]
    exact List.map_congr_left fun a ha => hbytes a (List.mem_range.mp ha)
  refine ⟨t, t', ht, ht', fun a ha => Option.some.inj ?_⟩
  rw [← hframe a ha, ← hframe' a ha, hseq, hpayload]

end Sys2Proof.Machine
end

section
/-! PROOFS. The by-value checks, and the code of every command's answer (30_encoding.md R66, R73). -/

namespace Sys2Proof.Machine

theorem Reg.ofIndex_eq_none_iff {r : Byte} : Reg.ofIndex r = none ↔ 0x0A < r.toNat := by
  revert r; decide

/-- `SEND` does not answer yet; every other command does, with `OperandRange` or `BadRegister` exactly where its
operands fail the by-value checks. -/
theorem exec_code {i : Instr} {s t : State} (h : exec i s = .next t) :
    (i = .send ∧ t.responses = s.responses) ∨
    ∃ q d, t.responses = s.responses ++ [⟨Result.code q, d⟩] ∧
      (i.wellFormed = false ↔ q = .operandRange ∨ q = .badRegister) := by
  cases i with
  | tbld => rw [execTbld_next h]; exact .inr ⟨.ok, _, rfl, by simp [Instr.wellFormed]⟩
  | cinit => rw [execCinit_next h]; exact .inr ⟨.ok, _, rfl, by simp [Instr.wellFormed]⟩
  | cbyte b => rw [execCbyte_next h]; exact .inr ⟨.ok, 0#32, by simp, by simp [Instr.wellFormed]⟩
  | cfin => rw [execCfin_next h]; exact .inr ⟨.ok, _, rfl, by simp [Instr.wellFormed]⟩
  | csum => obtain ⟨-, c, -, rfl⟩ := execCsum_next h; exact .inr ⟨.ok, c, by simp, by simp [Instr.wellFormed]⟩
  | trd k => rw [execTrd_next h]; exact .inr ⟨.ok, _, by simp; rfl, by simp [Instr.wellFormed]⟩
  | prst => rw [execPrst_next h]; exact .inr ⟨.ok, _, rfl, by simp [Instr.wellFormed]⟩
  | ppush b =>
    obtain ⟨-, rfl⟩ | ⟨-, rfl⟩ := execPpush_next h
    · exact .inr ⟨.ok, _, rfl, by simp [Instr.wellFormed]⟩
    · exact .inr ⟨.payloadOverflow, _, rfl, by simp [Instr.wellFormed]⟩
  | seqinc => rw [execSeqinc_next h]; exact .inr ⟨.ok, _, rfl, by simp [Instr.wellFormed]⟩
  | enc => obtain ⟨-, rfl⟩ := execEnc_next h; exact .inr ⟨.ok, 0#32, by simp, by simp [Instr.wellFormed]⟩
  | frd a =>
    obtain ⟨ha, rfl⟩ | ⟨ha, rfl⟩ := execFrd_next h <;> unfold frameSize at ha
    · exact .inr ⟨.ok, _, rfl, by simp [Instr.wellFormed]; omega⟩
    · exact .inr ⟨.operandRange, _, rfl, by simp [Instr.wellFormed]; omega⟩
  | sigw asserted =>
    obtain ⟨level, r, -, ⟨-, rfl⟩ | ⟨-, rfl⟩, rfl⟩ := execSigw_next h
    · exact .inr ⟨.ok, _, rfl, by simp [Instr.wellFormed]⟩
    · exact .inr ⟨.signalFault, _, rfl, by simp [Instr.wellFormed]⟩
  | send => rw [execSend_next h]; exact .inl ⟨rfl, rfl⟩
  | rreg r =>
    obtain ⟨x, hx, rfl⟩ | ⟨hnone, rfl⟩ := execRreg_next h
    · have hle : r.toNat ≤ 0x0A := by
        by_contra hgt
        simp [Reg.ofIndex_eq_none_iff.mpr (not_le.mp hgt)] at hx
      exact .inr ⟨.ok, _, rfl, by simpa [Instr.wellFormed] using hle⟩
    · exact .inr ⟨.badRegister, _, rfl, by simpa [Instr.wellFormed] using Reg.ofIndex_eq_none_iff.mp hnone⟩
  | wreg r v =>
    obtain ⟨u, hu, rfl⟩ | ⟨hnone, rfl⟩ := execWreg_next h
    · refine .inr ⟨.ok, 0#32, by rw [State.respond_responses, State.writeReg_responses hu], ?_⟩
      obtain ⟨rfl, -⟩ | ⟨rfl, -⟩ | ⟨rfl, -⟩ | ⟨rfl, -⟩ | ⟨-, hw⟩ := s.writeReg_cases r v
      case inr.inr.inr.inr => cases hw.symm.trans hu
      all_goals simp [Instr.wellFormed]
    · refine .inr ⟨.badRegister, _, rfl, ?_⟩
      obtain ⟨-, hw⟩ | ⟨-, hw⟩ | ⟨-, hw⟩ | ⟨-, hw⟩ | ⟨hr, -⟩ := s.writeReg_cases r v
      case inr.inr.inr.inr => simpa [Instr.wellFormed, and_assoc] using hr
      all_goals cases hw.symm.trans hnone

/-- The codes of the two faults that the by-value checks of a word raise are theirs alone (60_exceptions.md R170). -/
theorem Result.code_byValue_iff (q : Result) :
    q.code = 0x11#8 ∨ q.code = 0x13#8 ↔ q = .operandRange ∨ q = .badRegister := by
  cases q <;> decide

/-- Settles O55: the one response added carries the result that the by-value checks decide. -/
theorem byValueChecksDecideTheFault : Obligations.ByValueChecksDecideTheFault := by
  intro i s t r hexec hresp
  obtain ⟨-, hnone⟩ | ⟨q, d, hq, hwf⟩ := exec_code hexec
  · simp [hresp] at hnone
  · obtain rfl : ⟨q.code, d⟩ = r := by simpa [hresp] using hq.symm
    exact hwf.trans q.code_byValue_iff.symm

end Sys2Proof.Machine
end

section
/-! PROOFS. The dummy write before an exchange (42_handshake.md R129, R131). -/

namespace Sys2Proof.Machine

variable {s : State}

theorem State.pollBoundReached_eq_false_iff (s : State) :
    s.pollBoundReached = false ↔ s.pollmax = 0#16 ∨ s.pollcnt ≠ s.pollmax := by
  rw [← Bool.not_eq_true, s.pollBoundReached_iff, not_and_or, not_not]

theorem step_pollWrite_bound (hp : s.point = some .pollWrite) (h : s.pollBoundReached = true) :
    step s = .next (s.finish .faulted .ackTimeout) := by
  simp [step_of_point hp, advanceSend, sendPollWrite, h]

theorem step_pollWrite_one (hp : s.point = some .pollWrite) (h : s.pollBoundReached = false)
    (hw : s.writeAnswer [dummyByte] = .count 1) :
    step s = .next ((s.chanWrite [dummyByte]).goTo .pollRead) := by
  simp [step_of_point hp, advanceSend, sendPollWrite, h, hw]

theorem step_pollWrite_other (hp : s.point = some .pollWrite) (h : s.pollBoundReached = false)
    (hw : s.writeAnswer [dummyByte] ≠ .count 1) :
    step s = .next ((s.chanWrite [dummyByte]).finish .faulted .ackIo) := by
  obtain ⟨t, ht⟩ : ∃ t, advanceSend .pollWrite s = .next t := ⟨_, rfl⟩
  rw [step_of_point hp, ht]
  obtain ⟨hbound, -⟩ | ⟨-, -, rfl⟩ | ⟨-, hone, -⟩ := sendPollWrite_next ht
  · simp [h] at hbound
  · rfl
  · exact absurd hone hw

/-- Settles O35: the bound decides whether a request is made, and its answer whether the read follows. -/
theorem sendChecksBoundThenWritesDummy : Obligations.SendChecksBoundThenWritesDummy := by
  refine fun s hp => ⟨fun hmax hcnt => ?bound, fun hopen => ?_⟩
  case bound => exact step_pollWrite_bound hp (s.pollBoundReached_iff.mpr ⟨hmax, hcnt⟩)
  have hbound := s.pollBoundReached_eq_false_iff.mpr hopen
  refine ⟨fun hw => ?one, fun w hw hne => ?other⟩
  case one =>
    have hw : s.writeAnswer [dummyByte] = .count 1 := hw
    rw [step_pollWrite_one hp hbound hw, State.chanWrite_of_answer hw]
    rfl
  case other =>
    have hw : s.writeAnswer [dummyByte] = w := hw
    rw [step_pollWrite_other hp hbound (hw.trans_ne hne), State.chanWrite_of_answer hw]
    rfl

end Sys2Proof.Machine
end

section
/-! PROOFS. Polling through pending answers: what any number of them leaves, and that without a bound the poll goes on
(42_handshake.md R129 to R131, 70_reset_and_hazards.md R211). -/

namespace Sys2Proof.Machine

theorem ackClass_eq_pending_iff {b : Byte} : ackClass b = .pending ↔ b = 0x00#8 ∨ b = 0xFF#8 := by
  revert b; decide

/-- `POLLCNT` after `n` exchanges: counted, and saturated (10_state.md R21). -/
theorem toNat_iterate_pollSucc (n : Nat) (c : Half) : (pollSucc^[n] c).toNat = min (c.toNat + n) 0xFFFF := by
  induction n generalizing c with
  | zero => simp only [Function.iterate_zero, id]; omega
  | succ n ih => rw [Function.iterate_succ_apply, ih, toNat_pollSucc]; omega

/-- `s` before its next exchange, after exchanges that read the pending bytes `bytes`, with `writes` and `reads` the
answers still to come (42_handshake.md R129, R130). -/
def State.polled (s : State) (bytes : List Byte) (writes : List WriteAnswer) (reads : List ReadAnswer) : State :=
  { s with
    point := some .pollWrite, pollcnt := pollSucc^[bytes.length] s.pollcnt, ackb := bytes.getLastD s.ackb,
    trace := s.trace ++ bytes.flatMap exchangeEvents, writeIn := writes, readIn := reads }

theorem State.polled_nil {s : State} {writes : List WriteAnswer} {reads : List ReadAnswer}
    (hp : s.point = some .pollWrite) (hwrite : s.writeIn = writes) (hread : s.readIn = reads) :
    s.polled [] writes reads = s := by
  obtain ⟨⟩ := s
  simp_all [State.polled]

theorem State.polled_cons (s : State) (b : Byte) (bytes : List Byte) (writes writes' : List WriteAnswer)
    (reads reads' : List ReadAnswer) :
    (s.polled [b] writes' reads').polled bytes writes reads = s.polled (b :: bytes) writes reads := by
  simp [State.polled, List.getLast?_cons]

/-- `s` where an exchange has written its dummy byte and read `b`, before the byte is counted and decoded (R129). -/
def State.byteRead (s : State) (b : Byte) (writes : List WriteAnswer) (reads : List ReadAnswer) : State :=
  { s with
    point := some .pollRead, trace := s.trace ++ exchangeEvents b, writeIn := writes, readIn := reads }

@[simp] theorem State.byteRead_pollcnt (s : State) (b : Byte) (writes : List WriteAnswer) (reads : List ReadAnswer) :
    (s.byteRead b writes reads).pollcnt = s.pollcnt := rfl
@[simp] theorem State.byteRead_trace (s : State) (b : Byte) (writes : List WriteAnswer) (reads : List ReadAnswer) :
    (s.byteRead b writes reads).trace = s.trace ++ exchangeEvents b := rfl
@[simp] theorem State.byteRead_responses (s : State) (b : Byte) (writes : List WriteAnswer) (reads : List ReadAnswer) :
    (s.byteRead b writes reads).responses = s.responses := rfl

/-- One exchange, where the dummy write and the read succeed. -/
theorem runSteps_exchange {s : State} {b : Byte} {writes : List WriteAnswer} {reads : List ReadAnswer}
    (hp : s.point = some .pollWrite) (hbound : s.pollmax = 0#16 ∨ s.pollcnt ≠ s.pollmax)
    (hwrite : s.writeIn = .count 1 :: writes) (hread : s.readIn = .byte b :: reads) :
    runSteps 2 s = .next ((s.byteRead b writes reads).exchanged b) := by
  have hw : s.writeAnswer [dummyByte] = .count 1 := by simp [State.writeAnswer, hwrite]
  have hfirst := step_pollWrite_one hp (s.pollBoundReached_eq_false_iff.mpr hbound) hw
  have hr : ((s.chanWrite [dummyByte]).goTo .pollRead).readAnswer = .byte b := by simp [State.readAnswer, hread]
  have hsecond := step_pollRead_byte rfl hr
  have hstate : ((s.chanWrite [dummyByte]).goTo .pollRead).chanRead = s.byteRead b writes reads := by
    rw [State.chanRead, hr, State.chanWrite_of_answer hw]
    simp [State.byteRead, State.goTo, exchangeEvents, hwrite, hread, dummyByte]
  rw [runSteps_succ 1 hfirst, runSteps_succ 0 hsecond, hstate, runSteps_zero]

/-- A pending byte leads to the next exchange (R130). -/
theorem State.byteRead_exchanged_of_pending (s : State) {b : Byte} (hb : b = 0x00#8 ∨ b = 0xFF#8)
    (writes : List WriteAnswer) (reads : List ReadAnswer) :
    (s.byteRead b writes reads).exchanged b = s.polled [b] writes reads := by
  rw [State.exchanged_of_pending _ (ackClass_eq_pending_iff.mpr hb)]
  simp [State.polled, State.byteRead, State.countExchange, State.goTo]

/-- Any number of exchanges that read pending bytes, up to the bound where one is set. -/
theorem runSteps_allPending (bytes : List Byte) {s : State} {writes : List WriteAnswer} {reads : List ReadAnswer}
    (hp : s.point = some .pollWrite)
    (hbound : s.pollmax = 0#16 ∨ s.pollcnt.toNat + bytes.length ≤ s.pollmax.toNat)
    (hpending : ∀ b ∈ bytes, b = 0x00#8 ∨ b = 0xFF#8)
    (hwrite : s.writeIn = List.replicate bytes.length (.count 1) ++ writes)
    (hread : s.readIn = bytes.map .byte ++ reads) :
    runSteps (2 * bytes.length) s = .next (s.polled bytes writes reads) := by
  induction bytes generalizing s with
  | nil =>
    rw [State.polled_nil hp (by simpa using hwrite) (by simpa using hread)]
    rfl
  | cons b bs ih =>
    obtain ⟨hb, hbs⟩ := List.forall_mem_cons.mp hpending
    rw [List.length_cons] at hbound hwrite ⊢
    have hopen : s.pollmax = 0#16 ∨ s.pollcnt ≠ s.pollmax := hbound.imp_right fun h heq => by rw [heq] at h; omega
    have hleft : s.pollmax = 0#16 ∨ (pollSucc s.pollcnt).toNat + bs.length ≤ s.pollmax.toNat :=
      hbound.imp_right fun h => by rw [toNat_pollSucc]; omega
    have hfirst := runSteps_exchange hp hopen (by simpa [List.replicate_succ] using hwrite) (by simpa using hread)
    rw [State.byteRead_exchanged_of_pending s hb] at hfirst
    have hrest := ih (s := s.polled [b] (List.replicate bs.length (.count 1) ++ writes) (bs.map .byte ++ reads)) rfl
      hleft hbs rfl rfl
    rw [State.polled_cons] at hrest
    rw [show 2 * (bs.length + 1) = 2 + 2 * bs.length by omega, runSteps_add _ _ hfirst, hrest]

/-- Settles O40: without a bound every pending answer leads to the next exchange. -/
theorem unboundedPollGoesOn : Obligations.UnboundedPollGoesOn := by
  intro s pending writes reads hp hmax hpending hwrite hread
  exact ⟨_, runSteps_allPending pending hp (.inl hmax) hpending hwrite hread, rfl, rfl, rfl, rfl, rfl,
    toNat_iterate_pollSucc _ _⟩

end Sys2Proof.Machine
end

section
/-! PROOFS. A whole `SEND` whose line and frame writes succeed: five steps to the poll, then the first byte that is not
pending or the bound ends it (42_handshake.md R124, R131). -/

namespace Sys2Proof.Machine

/-- `s` with its next word taken as `SEND`, before the assert (R124). -/
def State.sendTaken (s : State) : State :=
  { s.commandTaken with pollcnt := 0#16, state := .selecting, point := some .assertLine }

theorem step_sendTaken {s : State} {rest : List Word} (hp : s.point = none) (hcmds : s.cmds = 0x31000000#32 :: rest) :
    step s = .next s.sendTaken := by
  obtain ⟨hdec, hsend⟩ := sendStartsPacket
  exact (step_of_command hp hcmds hdec).trans (hsend s.commandTaken)

theorem State.Inv.sendTaken {s : State} (h : s.Inv) : s.sendTaken.Inv :=
  h.commandTaken.exec_send rfl

/-- `s` after a successful assert and the settle delay, with `sigs` the line answers still to come (R125, R126). -/
def State.settled (s : State) (sigs : List SigAnswer) : State :=
  { s with
    trace := s.trace ++ [.sigWrite s.line .low .ok, .delay s.settle], sigIn := sigs, state := .transmitting,
    point := some .writeFrame }

/-- `s` after the write in full of its frame, answered with the count `n`, and a successful deassert, with `sigs` and
`writes` the answers still to come (R127, R128). -/
def State.framed (s : State) (n : Nat) (sigs : List SigAnswer) (writes : List WriteAnswer) : State :=
  { s with
    table := builtTable, tv := true, fb := Cells.ofList (encodeFrame crcEntry s.seq s.payload),
    trace := s.trace ++
      [.chanWrite (encodeFrame crcEntry s.seq s.payload) (.count n), .sigWrite s.line .high .ok],
    sigIn := sigs, writeIn := writes, state := .awaitingAck, point := some .pollWrite }

theorem runSteps_assert {s : State} {sigs : List SigAnswer} (hp : s.point = some .assertLine)
    (hsig : s.sigIn = .ok :: sigs) : runSteps 2 s = .next (s.settled sigs) := by
  have hok : s.sigAnswer s.line .low = .ok := by simp [State.sigAnswer, hsig]
  obtain ⟨hassert, -⟩ := sendAssertsLine s hp
  rw [runSteps_succ 1 (hassert hok), runSteps_succ 0 (sendWaitsSettleDelay _ rfl), hsig]
  simp [State.settled]

theorem runSteps_write {s : State} {n : Nat} {sigs : List SigAnswer} {writes : List WriteAnswer} (h : s.DataOk)
    (hp : s.point = some .writeFrame) (hn : 2056 ≤ n) (hsig : s.sigIn = .ok :: sigs)
    (hwrite : s.writeIn = .count n :: writes) : runSteps 2 s = .next (s.framed n sigs writes) := by
  obtain ⟨f, hf, hfull, -⟩ := sendWritesFrame s hp h.plen_le h.table_built
  have hframe : f = encodeFrame crcEntry s.seq s.payload := hf
  have hstep := hfull n (by simp [State.writeAnswer, hwrite]) hn
  rw [runSteps_succ 1 hstep, runSteps_succ 0 ((sendDeassertsLine _ rfl).1 (by simp [State.sigAnswer, hsig])), hsig,
    hwrite]
  simp [State.framed, hframe]

/-- `s` with its next word taken as `SEND`, before the first exchange: steps 1 to 3 have succeeded, the frame write with
the count `n`, and `sigs` and `writes` are the answers still to come. -/
def State.polling (s : State) (n : Nat) (sigs : List SigAnswer) (writes : List WriteAnswer) : State :=
  (s.sendTaken.settled (.ok :: sigs)).framed n sigs writes

/-- The five steps of a `SEND` from its word to its first exchange (R124 to R128). -/
theorem runSteps_send_to_poll {s : State} {rest : List Word} {n : Nat} {sigs : List SigAnswer}
    {writes : List WriteAnswer} (h : s.Inv) (hp : s.point = none) (hcmds : s.cmds = 0x31000000#32 :: rest)
    (hn : 2056 ≤ n) (hsig : s.sigIn = .ok :: .ok :: sigs) (hwrite : s.writeIn = .count n :: writes) :
    runSteps 5 s = .next (s.polling n sigs writes) := by
  have hdata : (s.sendTaken.settled (.ok :: sigs)).DataOk := { h.sendTaken.dataOk with }
  rw [runSteps_succ 4 (step_sendTaken hp hcmds), runSteps_add 2 2 (runSteps_assert (s := s.sendTaken) rfl hsig)]
  exact runSteps_write hdata rfl hn rfl hwrite

theorem State.polling_trace (s : State) (n : Nat) (sigs : List SigAnswer) (writes : List WriteAnswer) :
    (s.polling n sigs writes).trace =
      s.trace ++ [.sigWrite s.line .low .ok, .delay s.settle,
        .chanWrite (encodeFrame crcEntry s.seq s.payload) (.count n), .sigWrite s.line .high .ok] :=
  List.append_assoc s.trace _ _

/-- `u` is where a `SEND` taken in `s` stands before an exchange: the frame has gone out, its write answered with the
count `n`, the bytes `pending` have been read, and nothing has been answered to the host (R124, R129). -/
structure State.ReachesExchange (s : State) (n : Nat) (pending : List Byte) (u : State) : Prop where
  point : u.point = some .pollWrite
  cmds : u.cmds = s.cmds.tail
  responses : u.responses = s.responses
  pollmax : u.pollmax = s.pollmax
  pollcnt : u.pollcnt.toNat = min pending.length 0xFFFF
  ackb : u.ackb = pending.getLastD s.ackb
  fb : u.fb = Cells.ofList (encodeFrame crcEntry s.seq s.payload)
  trace : u.trace = s.trace ++
    (([.sigWrite s.line .low .ok, .delay s.settle, .chanWrite (encodeFrame crcEntry s.seq s.payload) (.count n),
      .sigWrite s.line .high .ok] : List Event) ++ pending.flatMap exchangeEvents)

/-- A `SEND` whose first answers are all pending, up to the bound where one is set, comes to the exchange after them. -/
theorem runSteps_send_pending {s : State} {rest : List Word} {n : Nat} {pending : List Byte} {sigs : List SigAnswer}
    {writes : List WriteAnswer} {reads : List ReadAnswer} (h : s.Inv) (hp : s.point = none)
    (hcmds : s.cmds = 0x31000000#32 :: rest) (hn : 2056 ≤ n) (hpending : ∀ b ∈ pending, b = 0x00#8 ∨ b = 0xFF#8)
    (hbound : s.pollmax = 0#16 ∨ pending.length ≤ s.pollmax.toNat) (hsig : s.sigIn = .ok :: .ok :: sigs)
    (hwrite : s.writeIn = .count n :: (List.replicate pending.length (.count 1) ++ writes))
    (hread : s.readIn = pending.map .byte ++ reads) :
    ∃ u, runSteps (5 + 2 * pending.length) s = .next u ∧ s.ReachesExchange n pending u ∧ u.writeIn = writes ∧
      u.readIn = reads := by
  have hpoll := runSteps_allPending pending rfl (hbound.imp_right (Nat.zero_add _).trans_le) hpending
    (s := s.polling n sigs (List.replicate pending.length (.count 1) ++ writes)) rfl hread
  refine ⟨_, (runSteps_add _ _ (runSteps_send_to_poll h hp hcmds hn hsig hwrite)).trans hpoll, ?_, rfl, rfl⟩
  exact
    { point := rfl, cmds := rfl, responses := rfl, pollmax := rfl, ackb := rfl, fb := rfl
      pollcnt := (toNat_iterate_pollSucc pending.length 0#16).trans (by simp)
      trace := by simp [State.polled, State.polling_trace] }

/-- A byte that is not pending ends the `SEND` with the result of its class (R130, R132). -/
theorem State.exchanged_of_not_pending (s : State) {b : Byte} (h00 : b ≠ 0x00#8) (hFF : b ≠ 0xFF#8) :
    (s.exchanged b).point = none ∧
    (b = 0x06#8 → (s.exchanged b).state = .acked ∧ (s.exchanged b).err = 0x00#8 ∧
      (s.exchanged b).responses = s.responses ++ [⟨0x00#8, 0#32⟩]) ∧
    (b = 0x15#8 → (s.exchanged b).state = .nacked ∧ (s.exchanged b).err = 0x04#8 ∧
      (s.exchanged b).responses = s.responses ++ [⟨0x04#8, 0#32⟩]) ∧
    (b ≠ 0x06#8 → b ≠ 0x15#8 → (s.exchanged b).state = .faulted ∧ (s.exchanged b).err = 0x06#8 ∧
      (s.exchanged b).responses = s.responses ++ [⟨0x06#8, 0#32⟩]) := by
  obtain ⟨hclass, h⟩ | ⟨hclass, h⟩ | ⟨hclass, -⟩ | ⟨hclass, h⟩ := s.exchanged_cases b
  · obtain rfl := ackClass_eq_ack_iff.mp hclass
    simp [h, Result.code]
  · obtain rfl := ackClass_eq_nack_iff.mp hclass
    simp [h, Result.code]
  · exact absurd (ackClass_eq_pending_iff.mp hclass) (by simp [h00, hFF])
  · have hb := ackClass_eq_reserved_iff.mp hclass
    simp only [List.mem_cons, List.not_mem_nil, or_false, not_or] at hb
    obtain ⟨-, -, hAck, hNack⟩ := hb
    simp [h, hAck, hNack, Result.code]

/-- Settles O37: with every pending byte below the bound the exchange after them is made, and its byte is the result. -/
theorem sendResolvesAtFirstAnswer : Obligations.SendResolvesAtFirstAnswer := by
  intro s rest n pending b sigs writes reads h hp hcmds hn hpending h00 hFF hmax hsig hwrite hread
  obtain ⟨u, hrun, hu, huwrite, huread⟩ := runSteps_send_pending (writes := .count 1 :: writes) h hp hcmds hn hpending
    (hmax.imp_right Nat.le_of_lt) hsig (by simpa [List.replicate_succ'] using hwrite) hread
  have hcount := hu.pollcnt
  have hopen : u.pollmax = 0#16 ∨ u.pollcnt ≠ u.pollmax := by
    rw [hu.pollmax]
    refine hmax.imp_right fun h heq => ?_
    rw [heq] at hcount
    omega
  have hlast := runSteps_exchange hu.point hopen huwrite huread
  obtain ⟨hpoint, hack, hnack, hreserved⟩ := (u.byteRead b writes reads).exchanged_of_not_pending h00 hFF
  rw [State.byteRead_responses, hu.responses] at hack hnack hreserved
  refine ⟨_, _, rfl, (runSteps_add _ 2 hrun).trans hlast, hpoint, ?cmds, State.exchanged_ackb _ _, ?count, hack, hnack,
    hreserved, ?trace, ?fb⟩
  case cmds =>
    rw [State.exchanged_frame]
    exact hu.cmds.trans (congrArg List.tail hcmds)
  case count =>
    rw [State.exchanged_pollcnt, toNat_pollSucc, State.byteRead_pollcnt, hcount]
    omega
  case trace =>
    rw [State.exchanged_trace, State.byteRead_trace, hu.trace]
    simp
  case fb =>
    rw [State.exchanged_frame]
    exact hu.fb

/-- Settles O38: after as many pending bytes as the bound allows, the next step finds the bound and makes no request. -/
theorem sendTimesOutAtBound : Obligations.SendTimesOutAtBound := by
  intro s rest n pending sigs writes reads h hp hcmds hn hpending hmax hlen hsig hwrite hread
  obtain ⟨u, hrun, hu, huwrite, huread⟩ := runSteps_send_pending h hp hcmds hn hpending (.inr hlen.le) hsig hwrite hread
  have hcount : u.pollcnt = s.pollmax := by
    have hlt := s.pollmax.isLt
    apply BitVec.eq_of_toNat_eq
    rw [hu.pollcnt, hlen]
    omega
  have hbound : u.pollBoundReached = true := by
    rw [State.pollBoundReached_iff, hu.pollmax]
    exact ⟨hmax, hcount⟩
  have hlast := runSteps_succ 0 (step_pollWrite_bound hu.point hbound)
  have hne : pending ≠ [] := by
    rintro rfl
    exact hmax (BitVec.eq_of_toNat_eq hlen.symm)
  refine ⟨u.finish .faulted .ackTimeout, ?run, rfl, hu.cmds.trans (congrArg List.tail hcmds), rfl, rfl, ?responses,
    hcount, ?ackb, huwrite, huread, ?trace⟩
  case run =>
    rw [show 6 + 2 * pending.length = 5 + 2 * pending.length + 1 by omega, runSteps_add _ 1 hrun, hlast]
    rfl
  case responses => exact congrArg (· ++ [_]) hu.responses
  case ackb =>
    rw [State.finish_ackb, hu.ackb]
    simp [List.getLast?_eq_some_getLast hne]
  case trace =>
    rw [State.finish_trace, hu.trace]
    simp [exchangeEvents, hlen]
    omega

end Sys2Proof.Machine
end

section
/-! PROOFS. With a poll bound every `SEND` ends: a count of the requests it can still make goes down with every step
(70_reset_and_hazards.md section 3). -/

namespace Sys2Proof.Machine

/-- How many requests a running `SEND` with a poll bound can still make (42_handshake.md R124, R131). -/
def State.requestsLeft (s : State) : Nat :=
  match s.point with
  | none => 0
  | some .assertLine => 2 * s.pollmax.toNat + 4
  | some .settle => 2 * s.pollmax.toNat + 3
  | some .writeFrame => 2 * s.pollmax.toNat + 2
  | some .deassertLine => 2 * s.pollmax.toNat + 1
  | some .pollWrite => 2 * (s.pollmax.toNat - s.pollcnt.toNat)
  | some .pollRead => 2 * (s.pollmax.toNat - s.pollcnt.toNat) - 1

/-- A `SEND` that has ended makes no more requests. -/
@[simp] theorem State.finish_requestsLeft (s : State) (st : PacketState) (r : Result) :
    (s.finish st r).requestsLeft = 0 := rfl

/-- Each step of a running `SEND` with a poll bound makes its requests out of those left, and has fewer left when it
goes on. -/
theorem advanceSend_requests {s t : State} {p : SendPoint} (h : s.Inv) (hp : s.point = some p)
    (hmax : s.pollmax ≠ 0#16) (hstep : advanceSend p s = .next t) :
    t.trace.length + t.requestsLeft ≤ s.trace.length + s.requestsLeft ∧
      (t.point ≠ none → t.requestsLeft < s.requestsLeft) := by
  cases p with
  | assertLine =>
    obtain ⟨-, rfl⟩ | ⟨-, rfl⟩ := sendAssertLine_next hstep <;> simp [State.requestsLeft, hp]
    omega
  | settle =>
    obtain rfl := sendSettle_next hstep
    simp [State.requestsLeft, hp]
    omega
  | writeFrame =>
    obtain ⟨-, f, -, ⟨-, rfl⟩ | ⟨-, rfl⟩⟩ := sendWriteFrame_next hstep <;> simp [State.requestsLeft, hp]
    omega
  | deassertLine =>
    have hzero := h.pollcnt_before_poll hp (by decide)
    obtain ⟨-, rfl⟩ | ⟨-, rfl⟩ := sendDeassertLine_next hstep <;> simp [State.requestsLeft, hp, hzero]
    omega
  | pollWrite =>
    obtain ⟨-, rfl⟩ | ⟨hbound, -, rfl⟩ | ⟨hbound, -, rfl⟩ := sendPollWrite_next hstep
    · simp [State.requestsLeft]
    · have hlt := h.pollcnt_lt_of_not_reached hp hbound hmax
      simp [State.requestsLeft, hp]
      omega
    · have hlt := h.pollcnt_lt_of_not_reached hp hbound hmax
      simp [State.requestsLeft, hp]
      omega
  | pollRead =>
    have hlt := h.pollcnt_lt_before_read hp hmax
    obtain ⟨-, rfl⟩ | ⟨b, -, rfl⟩ := sendPollRead_next hstep
    · simp [State.requestsLeft, hp]
      omega
    obtain ⟨-, h'⟩ | ⟨-, h'⟩ | ⟨-, h'⟩ | ⟨-, h'⟩ := s.chanRead.exchanged_cases b <;>
      simp [h', State.requestsLeft, hp, toNat_pollSucc] <;> omega

/-- A running `SEND` with a poll bound ends with its result, one step after its last request at the latest. -/
theorem runSteps_until_end {s : State} (h : s.Inv) (hp : s.point ≠ none) (hmax : s.pollmax ≠ 0#16) :
    ∃ k t, k ≤ s.requestsLeft + 1 ∧ runSteps k s = .next t ∧ t.point = none ∧ t.cmds = s.cmds ∧
      t.responses = s.responses ++ [⟨t.err, 0#32⟩] ∧ t.trace.length ≤ s.trace.length + s.requestsLeft := by
  induction hn : s.requestsLeft using Nat.strong_induction_on generalizing s with
  | _ n ih =>
    obtain ⟨p, hpoint⟩ := Option.ne_none_iff_exists'.mp hp
    obtain ⟨t, hstep⟩ := stepNeverStops s h
    have hadv : advanceSend p s = .next t := (step_of_point hpoint).symm.trans hstep
    obtain ⟨hleft, hless⟩ := advanceSend_requests h hpoint hmax hadv
    obtain ⟨hgoes, -, hends⟩ := sendEndsWithItsResult s t p h hpoint hstep
    have hcmds : t.cmds = s.cmds := runningSendTakesNoWord s t hp hstep
    by_cases hend : t.point = none
    · exact ⟨1, t, by omega, runSteps_succ 0 hstep, hend, hcmds, (hends hend).1, by omega⟩
    obtain ⟨-, -, -, -, hpollmax, -⟩ := sendLeavesInputsAlone s t (State.current_of_point hpoint) hstep
    obtain ⟨k, u, hk, hrun, hnone, hcmds', hresp, htrace⟩ := ih t.requestsLeft (hn ▸ hless hend)
      (invariantKeptByStep s t h hstep) hend (hpollmax ▸ hmax) rfl
    have hlt := hless hend
    refine ⟨k + 1, u, by omega, (runSteps_succ k hstep).trans hrun, hnone, hcmds'.trans hcmds, ?_, by omega⟩
    rw [hresp, (hgoes hend).2]

/-- Settles O39: taking the word is one step, and 2N + 4 requests are left after it. -/
theorem boundedSendEnds : Obligations.BoundedSendEnds := by
  intro s rest h hp hcmds hmax
  have hstart := step_sendTaken hp hcmds
  have hpoint : s.sendTaken.point ≠ none := by simp [State.sendTaken]
  obtain ⟨k, t, hk, hrun, hnone, hcmds', hresp, htrace⟩ := runSteps_until_end h.sendTaken hpoint hmax
  have hleft : s.sendTaken.requestsLeft = 2 * s.pollmax.toNat + 4 := rfl
  refine ⟨k + 1, t, by omega, (runSteps_succ k hstart).trans hrun, hnone, ?_, hresp, ?_⟩
  · exact hcmds'.trans (congrArg List.tail hcmds)
  · rw [hleft] at htrace
    exact htrace

end Sys2Proof.Machine
end
